-- ==== Sys2Proof/Word.lean ====
section
/-! DEFINITION. The word types of the L64: bytes of frames and transactions, and the 48-bit factory identity. -/

namespace Sys2Proof

/-- A byte of a frame or of a host transaction. -/
abbrev Byte := BitVec 8

/-- A 48-bit factory identity (00 section 5). -/
abbrev Uid := BitVec 48

end Sys2Proof
end

