-- ==== Sys2Proof/Syntax.lean ====
section
/-! DEFINITION. The commands of the L64: one constructor per row of spec/opcode_table.json, in the table's order, with
the operands that come from outside the part. -/

namespace Sys2Proof

/-- The decisive samples that RXD gives from a start edge on (R122, R123): samples 7, 8 and 9 of each of the positions
0..10, bit k of each vector being the sample taken in position k. The other samples play no part. -/
structure CharWave where
  s7 : BitVec 11
  s8 : BitVec 11
  s9 : BitVec 11
deriving DecidableEq, Repr

/-- A start edge as it comes from the line: `dt` after the previous command, with the samples that RXD goes on to give
[log 29]. -/
structure StartEdge where
  dt : Nat
  wave : CharWave
deriving DecidableEq, Repr

/-- How much of a host port transaction a command carries (R167). `whole` is a transaction that no other step meets:
CS_N falls, byte 0 is the row's code, the given bytes follow and CS_N rises. The other four are its parts, for
transactions during which other steps fall. Only whole bytes count, so a byte cut by CS_N rising is not given. -/
inductive PortPhase where
  | whole (bytes : List Byte)
  | select
  | code
  | clock (bytes : List Byte)
  | deselect
deriving DecidableEq, Repr

/-- The commands. `dt` is the time since the previous command, in CLKIN periods, for events that come from outside the
part [log 1]; events whose instant the part itself fixes carry none [log 2]. Station requests and host commands carry
no data: TC takes them from the head of RXQ and from the command slot. A character's event names the character by its
samples `w`, those that came with its start edge [log 29]. `deadlineFirst` orders a request's deadline and its taking (or
an answer's deadline and its abort) when the two meet at one instant (R137, R141) [log 6]. -/
inductive Instr where
  /-- RESET_N goes low (R196). -/
  | pinReset (dt : Nat)
  /-- RESET_N goes high; `strap` is the level of the HOLD strap, `true` for high (R197). -/
  | resetRelease (dt : Nat) (strap : Bool)
  /-- The start-up interval ends (R196). -/
  | startUpEnd (dt : Nat)
  /-- The unmarked character that completes the frame in assembly (R129). -/
  | frameReceived (w : CharWave)
  /-- A character with mark bit 1 (R126). -/
  | markedCharacter (w : CharWave)
  /-- Byte 4 of the frame in assembly, above 48 (R127). -/
  | lengthMalformed (w : CharWave)
  /-- A character, or the first 11 bit times of a break, whose stop bit is decided as 0 (R124). -/
  | framingError (w : CharWave)
  /-- The silence inside a frame passes tGAP (R128). -/
  | frameGapTruncation
  /-- LTX starts an attempt (R139). -/
  | txAttemptStart
  /-- The character whose check failed, or at which a rate change aborts the attempt, ends (R143). -/
  | transmitAbort (deadlineFirst : Bool)
  /-- The echo of the last character passes the check (R145). -/
  | transmitComplete
  /-- The join window reaches its closing instant (R149). -/
  | joinWindowClose
  /-- The silence measure reaches tBACK(k) (R139). -/
  | backoffEnd
  /-- The earliest deadline of an ANSWER entry not in an attempt passes (R141). -/
  | answerDeadlinePassed
  /-- The beacon period timer completes a period (R146). -/
  | beaconDue
  /-- The roster clock completes a second (R60). -/
  | secondEvent
  /-- TC serves the pending lease expiry of a slot's record (R64). -/
  | leaseExpiry (slot : Nat)
  /-- TC serves the pending grace expiry of a slot's record (R65). -/
  | graceExpiry (slot : Nat)
  /-- TC serves the pending offer expiry of a slot's record (R66). -/
  | offerExpiry (slot : Nat)
  /-- TC serves the pending expiry of the hold-down item of an address (R67). -/
  | holdDownExpiry (address : Nat)
  /-- TC serves the pending expiry of the APQ item of a UID (R81). -/
  | approvalExpiry (uid : Uid)
  /-- TC serves the pending eviction completion of a slot (R99). -/
  | evictionCompletion (slot : Nat)
  | join (deadlineFirst : Bool)
  | confirm (deadlineFirst : Bool)
  | renew (deadlineFirst : Bool)
  | leave (deadlineFirst : Bool)
  | resolve (deadlineFirst : Bool)
  | identify (deadlineFirst : Bool)
  | info (deadlineFirst : Bool)
  | groupList (deadlineFirst : Bool)
  | subscribe (deadlineFirst : Bool)
  | unsubscribe (deadlineFirst : Bool)
  | unsupportedRequest (deadlineFirst : Bool)
  | status (dt : Nat) (phase : PortPhase)
  | submit (dt : Nat) (phase : PortPhase)
  | fetch (dt : Nat) (phase : PortPhase)
  | changes (dt : Nat) (phase : PortPhase)
  | conflictTransaction (dt : Nat) (phase : PortPhase)
  /-- A transaction whose byte 0 is `code`, none of 0x01 to 0x05 (R167). -/
  | unknownTransaction (dt : Nat) (code : Byte) (phase : PortPhase)
  | readEntry
  | findUid
  | findAddress
  | list
  | provision
  | edit
  | evict
  | delete
  | bar
  | approve
  | deny
  | readQueue
  | groupAdd
  | groupRemove
  | groupClear
  | groupRead
  | groupOpen
  | configure
  | readConfig
  | readPool
  | readCounters
  | clearCounters
  | hold
  | release
  | rosterClear
  /-- RXD reads 0 after a sample reading 1 while the character assembler is WAITING (R122). -/
  | startEdge (e : StartEdge)
  /-- Samples 7, 8 and 9 of position 0 hold a majority of 1 (R122); `high`: the sample after them reads 1 [log 27]. -/
  | falseStart (w : CharWave) (high : Bool)
  /-- A character with mark bit 0 (R126). -/
  | unmarkedCharacter (w : CharWave)
  /-- The first sample reading 1 after a framing error, a break, pin reset or a rate change, or after a false start whose
  next sample read 0 (R124, R125) [log 27]. -/
  | breakEnd (dt : Nat)
  /-- The character at which a beacon or a frame was cut ends (R150, R151). -/
  | cutCharacterEnd
deriving DecidableEq, Repr

end Sys2Proof
end

