-- ==== Sys2Proof/Decode.lean ====
section
/-! DEFINITION. The commands that a word spells by the bits of spec/opcode_table.json. -/

namespace Sys2Proof

/-- The command that the bits `w` of a table row spell. No row of spec/opcode_table.json gives bits (every row's
"fields" list is empty: the part takes events, not words), so no word spells a command [log 5]. -/
def decodeTableWord (_nbits _w : Nat) : Option Instr := none

end Sys2Proof
end

