-- ==== Sys2Proof/Config.lean ====
section
/-! DEFINITION. What is fixed for the machine and no command changes. The spec leaves no value of the part open without
giving it an event or an operand (NOTES.md), so there is no free value here. -/

namespace Sys2Proof

/-- CLKIN, in periods to the second (R59, R121): 14.7456 MHz. -/
def Config.clkinHz : Nat := 14745600

end Sys2Proof
end

