-- ==== Sys2Proof/Machine/State.lean ====
section
/-! DEFINITION. The state of the L64 as plain data, block by block (00 section 3), and the state just after reset. -/

namespace Sys2Proof.Machine

/-- HELD or RUNNING (12). -/
inductive Mode where
  | held
  | running
deriving DecidableEq, Repr

/-- The admission policy (R73); `openAll` is OPEN. -/
inductive Policy where
  | openAll
  | approve
  | closed
deriving DecidableEq, Repr

/-- How a record was created (R5). -/
inductive Origin where
  | line
  | host
deriving DecidableEq, Repr

/-- The states of an occupied slot (R4). VACANT is the absence of a record. -/
inductive RecState where
  | reserved
  | offered
  | bound
  | lapsed
  | evicting
  | barred
deriving DecidableEq, Repr

/-- A roster record (R4 to R15). `remaining` is the time left on the one timer the state runs; `some 0` is a timer whose
expiry is pending (R61) [log 11]. -/
structure Record where
  state : RecState
  origin : Origin
  uid : Uid
  address : Option Nat
  reserved : Bool
  pinned : Bool
  remaining : Option Nat
  cls : Byte
  binds : Nat
  conflicts : Nat
  groups : List Nat
  label : List Byte
deriving DecidableEq, Repr

/-- An entry of the hold-down set (R23). `overdue` counts the second events since the remaining time reached 0: it orders
the expiries that are pending together (R24). -/
structure HoldItem where
  address : Nat
  uid : Uid
  remaining : Nat
  overdue : Nat := 0
deriving DecidableEq, Repr

/-- An item of the approval queue (R74). -/
structure ApqItem where
  uid : Uid
  cls : Byte
  preferred : Option Nat
  remaining : Nat
deriving DecidableEq, Repr

/-- A group: open flag and member slots, oldest member first (R108). -/
structure Group where
  isOpen : Bool
  members : List Nat
deriving DecidableEq, Repr

/-- The roster table and the collections that depend on it. The identity index and the address map are views of the
table (Ops.lean) [log 10]. -/
structure Roster where
  table : List (Option Record)
  free : List Nat
  hold : List HoldItem
  apq : List ApqItem
  groups : List Group
deriving DecidableEq, Repr

/-- Mode control (12). -/
structure ModeControl where
  mode : Mode
  epoch : BitVec 16
deriving DecidableEq, Repr

/-- The beacon period timer while it runs: periods of CLKIN counted, and the number that makes the running period
(R146). -/
structure BeaconTimer where
  elapsed : Nat
  period : Nat
deriving DecidableEq, Repr

/-- The roster clock's phase (R59) and the beacon period timer, absent while stopped (R146). -/
structure Clocks where
  phase : Nat
  beacon : Option BeaconTimer
deriving DecidableEq, Repr

/-- The configuration parameters (R183). -/
structure Params where
  leaseTime : Nat
  graceTime : Nat
  offerTime : Nat
  holdTime : Nat
  approveTime : Nat
  beaconPeriod : Nat
  joinSlots : Nat
  policy : Policy
  adoption : Bool
  txAttempts : Nat
  conflictLimit : Nat
  lineRate : Nat
  noticeEnable : BitVec 9
deriving DecidableEq, Repr

/-- The character assembler (R120, R122). `edge` is the instant of the start edge; position and sample phase follow
from it and the line time (Timing.lean). `w` is what RXD gives from that edge on; the assembler has seen those of its
samples whose instants have passed [log 29]. -/
inductive CharAsm where
  | waiting
  | start (edge : Nat) (w : CharWave)
  | data (edge : Nat) (w : CharWave)
deriving DecidableEq, Repr

/-- A frame in assembly (R120, R126): the bytes taken, oldest first, whose number is the byte count; the declared
length once byte 4 has come; the running CRC; the own-frame mark. -/
structure Assembly where
  bytes : List Byte
  declared : Option Nat
  crc : BitVec 16
  own : Bool
deriving DecidableEq, Repr

/-- The frame assembler (R120). DISCARDING keeps the own-frame mark of the frame it discards (R130). -/
inductive FrameAsm where
  | outside
  | assembling (a : Assembly)
  | discarding (own : Bool)
deriving DecidableEq, Repr

/-- The silence measure (R125): held at 0 by a start edge, held at 0 until RXD reads 1, or running since an instant.
`last` of `awaitOne`: the latest sample may have read 1, so that a 0 after it is a start edge (R122) [log 14]. -/
inductive Silence where
  | held
  | awaitOne (last : Bool)
  | since (t : Nat)
deriving DecidableEq, Repr

/-- The line receiver (R120). `bits` are the bits received, the oldest first: of the character in DATA those decided so
far, else those of the last character. `quiet` is the end of the character at which a change of LINE_RATE aborted an
attempt, while what LRX receives still counts as part of that attempt's own frame (R150). -/
structure Lrx where
  chr : CharAsm
  bits : List Bool
  frm : FrameAsm
  sil : Silence
  quiet : Option Nat
deriving DecidableEq, Repr

/-- A request item of RXQ (R132). The payload length is the payload's length. -/
structure Request where
  dest : Nat
  source : Nat
  code : Byte
  tag : Byte
  payload : List Byte
  endTime : Nat
  deadline : Nat
deriving DecidableEq, Repr

/-- A frame to be sent, from source 0 (R136): type 1 answer or 2 unsolicited, destination, code, tag, payload. -/
structure Frame where
  ftype : Nat
  dest : Nat
  code : Byte
  tag : Byte
  payload : List Byte
deriving DecidableEq, Repr

/-- The kind of a TXQ entry (R136). An EVICT entry names the slot whose eviction its end completes (R99). -/
inductive EntryKind where
  | answer (deadline : Nat)
  | offer
  | evict (slot : Nat)
deriving DecidableEq, Repr

/-- A TXQ entry (R136). `inAttempt` marks the entry that LTX is sending. -/
structure Entry where
  kind : EntryKind
  frame : Frame
  attempts : Nat
  inAttempt : Bool
deriving DecidableEq, Repr

/-- A character on TXD: its byte and mark bit, its start edge and the bit time it is driven at. -/
structure Drive where
  byte : Byte
  mark : Bool
  start : Nat
  bit : Nat
deriving DecidableEq, Repr

/-- What an attempt sends: the TXQ entry marked `inAttempt`, or a beacon with its join slots value (R148, R149). -/
inductive AttemptKind where
  | entry
  | beacon (joinSlots : Nat)
deriving DecidableEq, Repr

/-- An attempt (R138, R142): the frame's bytes, the index of the character on the line, that character, the result of
its echo check once an echo or framing error has come, and whether a rate change aborts it at its end (R150). -/
structure Attempt where
  kind : AttemptKind
  bytes : List Byte
  index : Nat
  drive : Drive
  echo : Option Bool
  abortAtEnd : Bool
deriving DecidableEq, Repr

/-- The states of LTX (R138). BACKOFF holds k of its required silence tBACK(k), and the instant of
the abort, before which no silence counts (R143) [log 7]. -/
inductive LtxState where
  | ready
  | sending (a : Attempt)
  | backoff (k aborted : Nat)
  | window (closing : Nat)
deriving DecidableEq, Repr

/-- The transmitter: its state, the character still driven after a cut (R150, R151), the beacon-pending flag (R147). -/
structure Ltx where
  state : LtxState
  tail : Option Drive
  beaconPending : Bool
deriving DecidableEq, Repr

/-- The result codes (R174). -/
inductive ResultCode where
  | done
  | notFound
  | badState
  | full
  | inUse
  | duplicate
  | badArgument
  | badCommand
  | limit
deriving DecidableEq, Repr

/-- The result buffer's contents (R170). -/
structure Result where
  code : ResultCode
  payload : List Byte
deriving DecidableEq, Repr

/-- The command unit: IDLE, EXECUTING with its command, RESULT_READY with its result (R170). -/
inductive CmdUnit where
  | idle
  | executing (code : Byte) (args : List Byte)
  | ready (r : Result)
deriving DecidableEq, Repr

/-- A host transaction in progress (R167): the code once byte 0 is complete, the whole bytes counted after it, the
bytes prepared for SDO from byte 1 on, and whether they report a result (FETCH) or a full latch (CONFLICT). -/
structure Txn where
  code : Option Byte
  ins : List Byte
  plan : List Byte
  loaded : Bool
deriving DecidableEq, Repr

/-- The host port. `sdo` is the model's own record of the bytes driven in the latest transaction [log 9]. -/
structure Port where
  txn : Option Txn
  sdo : List Byte
  refused : Bool
deriving DecidableEq, Repr

/-- A full conflict latch (R94). -/
structure Latch where
  address : Nat
  slot : Nat
  intruder : Uid
  code : Byte
  overflow : Bool
deriving DecidableEq, Repr

/-- The eight counters (R193). -/
structure Counters where
  accepted : Nat
  crcErrors : Nat
  framing : Nat
  malformed : Nat
  overruns : Nat
  late : Nat
  abandons : Nat
  conflicts : Nat
deriving DecidableEq, Repr

/-- The change and notice unit (11). Bit s of `changes` is slot s; bit k of `notices` stands at bit k of the notice byte
(R206). `marks` and `noticeMarks` are what a CHANGES transaction in progress would clear: set in its snapshot and still
unrepeated (R191). -/
structure Cn where
  changes : BitVec 64
  marks : BitVec 64
  notices : BitVec 7
  noticeMarks : BitVec 7
  latch : Option Latch
  counters : Counters
deriving DecidableEq, Repr

/-- The state of the part. `now` is the line time in CLKIN periods since the last release of RESET_N [log 1];
`pending` is the queue of commands that wait. -/
structure State where
  now : Nat
  inReset : Bool
  startUp : Bool
  ctl : ModeControl
  clk : Clocks
  cfg : Params
  ros : Roster
  lrx : Lrx
  rxq : List Request
  txq : List Entry
  ltx : Ltx
  completions : List Nat
  hp : Port
  cu : CmdUnit
  cn : Cn
  pending : List Instr
deriving DecidableEq, Repr

/-- Why the part could stop. No rule of the spec stops it, so there is no constructor and no step faults (safe). -/
inductive Fault where
deriving DecidableEq, Repr

/-- Why a command could have no meaning. -/
inductive Refusal where
  /-- Raised by an arm of `exec` for a command that has no meaning yet; safe. No arm raises it. -/
  | notModelled (mnemonic : String)
deriving DecidableEq, Repr

/-- The defaults of the parameters (R183). -/
def Params.default : Params where
  leaseTime := 300
  graceTime := 30
  offerTime := 3
  holdTime := 60
  approveTime := 60
  beaconPeriod := 250
  joinSlots := 4
  policy := .openAll
  adoption := true
  txAttempts := 3
  conflictLimit := 4
  lineRate := 4
  noticeEnable := 0x1FF#9

/-- The roster's contents after pin reset and ROSTER CLEAR (R27, R74, R108). -/
def Roster.empty : Roster where
  table := List.replicate 64 none
  free := List.range' 1 60
  hold := []
  apq := []
  groups := List.replicate 16 ⟨false, []⟩

/-- All counters 0 (R193). -/
def Counters.zero : Counters := ⟨0, 0, 0, 0, 0, 0, 0, 0⟩

/-- The part just after the release of RESET_N (R196, R197) with the HOLD strap low [log 8]: RUNNING with epoch 0, a
beacon due and a full beacon period running, every store at its reset contents, the start-up interval running. -/
def State.reset : State where
  now := 0
  inReset := false
  startUp := true
  ctl := ⟨.running, 0⟩
  clk := ⟨0, some ⟨0, 3686400⟩⟩
  cfg := Params.default
  ros := Roster.empty
  lrx := ⟨.waiting, [], .outside, .awaitOne false, none⟩
  rxq := []
  txq := []
  ltx := ⟨.ready, none, true⟩
  completions := []
  hp := ⟨none, [], false⟩
  cu := .idle
  cn := ⟨0, 0, 0, 0, none, Counters.zero⟩
  pending := []

end Sys2Proof.Machine
end

