-- ==== Sys2Proof/Machine/Wave.lean ====
section
/-! DEFINITION. What the character assembler decides from the samples of a character (R122, R123). -/

namespace Sys2Proof.Machine

/-- The bits of positions 0..10, each by the majority of its samples 7, 8 and 9 (R122, R123). -/
def waveBits (w : CharWave) : BitVec 11 :=
  (w.s7 &&& w.s8) ||| (w.s7 &&& w.s9) ||| (w.s8 &&& w.s9)

/-- Position 0 is decided as 0: a valid start; as 1, a false start (R122). -/
def waveStartValid (w : CharWave) : Bool := !(waveBits w).getLsbD 0

/-- The data byte of positions 1..8, least significant bit first (R123). -/
def waveByte (w : CharWave) : Byte := (waveBits w).extractLsb' 1 8

/-- The mark bit, position 9 (R123). -/
def waveMark (w : CharWave) : Bool := (waveBits w).getLsbD 9

/-- The stop bit, position 10 (R123). -/
def waveStop (w : CharWave) : Bool := (waveBits w).getLsbD 10

/-- The first `n` of the bits received, from position 1 on: the data bits, then the mark bit (R120, R123). -/
def waveReceived (w : CharWave) (n : Nat) : List Bool := (List.range n).map fun k => (waveBits w).getLsbD (k + 1)

/-- The undisturbed samples of the character that carries a byte and a mark bit (R204). -/
def cleanWave (b : Byte) (mark : Bool) : CharWave :=
  let v : BitVec 11 := (b.setWidth 11 <<< 1) ||| (if mark then 0x200#11 else 0#11) ||| 0x400#11
  ⟨v, v, v⟩

end Sys2Proof.Machine
end

