-- ==== Sys2Proof/Machine/Timing.lean ====
section
/-! DEFINITION. Line time and the clocks: the spec's intervals in CLKIN periods, and what the passing of time does. -/

namespace Sys2Proof.Machine

/-- CLKIN periods per sample of RXD (R121). -/
def samplePeriods (rate : Nat) : Nat :=
  match rate with
  | 0 => 96
  | 1 => 48
  | 2 => 24
  | 3 => 16
  | 4 => 8
  | 5 => 4
  | _ => 2

/-- tBIT: 16 samples (R121). -/
def tBit (rate : Nat) : Nat := 16 * samplePeriods rate
/-- tCHAR: 11 tBIT (00 section 5). -/
def tChar (rate : Nat) : Nat := 11 * tBit rate
/-- tTURN: 2 tCHAR (13.6). -/
def tTurn (rate : Nat) : Nat := 2 * tChar rate
/-- tGAP: 3 tCHAR (13.6). -/
def tGap (rate : Nat) : Nat := 3 * tChar rate
/-- tRSP: 24 tCHAR (13.6). -/
def tRsp (rate : Nat) : Nat := 24 * tChar rate
/-- tSLOT: 16 tCHAR (13.6). -/
def tSlot (rate : Nat) : Nat := 16 * tChar rate
/-- tBACK(k): (2 + 4k) tCHAR (13.6). -/
def tBack (rate k : Nat) : Nat := (2 + 4 * k) * tChar rate

/-- From a start edge to sample 9 of position 0 (R123: sample n of position k falls 16k + n - 1 samples after it). -/
def startDecision (rate : Nat) : Nat := 8 * samplePeriods rate
/-- From a start edge to sample 9 of position 10, where a character is handed on (R123). -/
def handOn (rate : Nat) : Nat := 168 * samplePeriods rate

/-- The instant at which BACKOFF ends on a line silent since `t`: the silence is measured from the moment the line falls
silent after the abort, and from the abort itself on a line that is silent already (R139, R143) [log 7]. -/
def backoffEnd (rate k aborted t : Nat) : Nat := max t aborted + tBack rate k

/-- Periods of CLKIN in a second of the roster clock (R59). -/
def secondPeriods : Nat := Config.clkinHz
/-- Periods of CLKIN in the beacon period: 147 456 to each 10 ms (R146). -/
def beaconPeriods (ms : Nat) : Nat := 147456 * (ms / 10)
/-- tSTART in whole CLKIN periods: at most 2 ms (R196). -/
def startUpLimit : Nat := 29491

/-- The end of a driven character, 11 bit times after its start edge (R139). -/
def Drive.finish (d : Drive) : Nat := d.start + 11 * d.bit

/-- The bit position 1..10 that the character assembler is in at an instant of DATA: it moves to position 1 at sample 9
of position 0, and on to the next at sample 9 of each (R122, R123) [log 29]. -/
def bitPosition (rate edge now : Nat) : Nat := min ((now - (edge + startDecision rate)) / tBit rate + 1) 10
/-- The sample phase 1..16 that the character assembler is in at an instant (R120, R123). -/
def samplePhase (rate edge now : Nat) : Nat := (now - edge) / samplePeriods rate % 16 + 1

/-- At sample 9 of position 0 a valid start moves START to DATA (R122); in DATA the bits of the positions passed are
received (R123). A false start waits for its own event. -/
def Lrx.settle (rate now : Nat) (l : Lrx) : Lrx :=
  match l.chr with
  | .start e w =>
    if waveStartValid w = true ∧ e + startDecision rate ≤ now then
      { l with chr := .data e w, bits := waveReceived w (bitPosition rate e now - 1) }
    else l
  | .data e w => { l with bits := waveReceived w (bitPosition rate e now - 1) }
  | .waiting => l

/-- At the end of a character whose echo passed, other than the last, LTX drives the next one (R139, R142). -/
def settleAttempt (rate now : Nat) (a : Attempt) : Attempt :=
  if a.echo = some true ∧ a.index + 1 < a.bytes.length ∧ a.abortAtEnd = false ∧ a.drive.finish ≤ now then
    { a with index := a.index + 1, echo := none,
             drive := ⟨a.bytes.getD (a.index + 1) 0, false, a.drive.finish, tBit rate⟩ }
  else a

/-- `settleAttempt` within the transmitter's state. -/
def settleLtx (rate now : Nat) (l : LtxState) : LtxState :=
  match l with
  | .sending a => .sending (settleAttempt rate now a)
  | l => l

/-! ### The clocks -/

/-- The beacon period timer over `d` periods of CLKIN: a period completed starts the next at once, of `next` periods
(R146). -/
def BeaconTimer.run (next d : Nat) (b : BeaconTimer) : BeaconTimer :=
  if b.elapsed + d < b.period then { b with elapsed := b.elapsed + d } else ⟨(b.elapsed + d - b.period) % next, next⟩

/-- The roster clock and the beacon period timer over `d` periods of CLKIN: both run in RUNNING only (R59, R146). -/
def Clocks.run (mode : Mode) (next d : Nat) (c : Clocks) : Clocks :=
  match mode with
  | .running => ⟨(c.phase + d) % secondPeriods, c.beacon.map (BeaconTimer.run next d)⟩
  | .held => c

/-- The seconds that the roster clock completes over `d` periods of CLKIN (R59). -/
def Clocks.seconds (mode : Mode) (d : Nat) (c : Clocks) : Nat :=
  match mode with
  | .running => (c.phase + d) / secondPeriods
  | .held => 0

/-- The beacon period timer completes a period within `d` periods of CLKIN (R146). -/
def Clocks.makesBeaconDue (mode : Mode) (d : Nat) (c : Clocks) : Bool :=
  match mode, c.beacon with
  | .running, some b => decide (b.period ≤ b.elapsed + d)
  | _, _ => false

/-- A running timer of a record over `n` second events; one at 0 has expired and is lowered no further (R60). -/
def Record.lower (n : Nat) (r : Record) : Record := { r with remaining := r.remaining.map (· - n) }

/-- A hold-down item over `n` second events (R60); past 0 they count as overdue (R24). -/
def HoldItem.lower (n : Nat) (i : HoldItem) : HoldItem :=
  { i with remaining := i.remaining - n, overdue := i.overdue + (n - i.remaining) }

/-- Every running timer of the roster over `n` second events: records, hold-down items, approval items (R60). -/
def Roster.lower (n : Nat) (r : Roster) : Roster :=
  { r with
    table := r.table.map (Option.map (Record.lower n))
    hold := r.hold.map (HoldItem.lower n)
    apq := r.apq.map fun i => { i with remaining := i.remaining - n } }

/-- `d` periods of CLKIN pass. In reset nothing but line time moves (R196). The start-up interval ends at tSTART at the
latest (R196) [log 17]. Out of reset the clocks run, and each second and beacon period completed has its effect (R59,
R60, R146, R147). -/
def State.advance (d : Nat) (s : State) : State :=
  let now := s.now + d
  if s.inReset then { s with now := now }
  else
    { s with
      now := now
      startUp := s.startUp && decide (now < startUpLimit)
      clk := s.clk.run s.ctl.mode (beaconPeriods s.cfg.beaconPeriod) d
      ros := s.ros.lower (s.clk.seconds s.ctl.mode d)
      lrx := s.lrx.settle s.cfg.lineRate now
      ltx := { s.ltx with
        state := settleLtx s.cfg.lineRate now s.ltx.state
        beaconPending := s.ltx.beaconPending || s.clk.makesBeaconDue s.ctl.mode d } }

/-- Line time runs to the instant `t`, or stays where it stands when `t` has passed. -/
def State.advanceTo (t : Nat) (s : State) : State := s.advance (t - s.now)

/-- The silence measure at the present instant (R125). -/
def State.silence (s : State) : Nat :=
  match s.lrx.sil with
  | .since t => s.now - t
  | _ => 0

/-- The line is idle: silent for at least tTURN (R125). A measure held at 0 is below tTURN. -/
def State.lineIdle (s : State) : Bool := decide (tTurn s.cfg.lineRate ≤ s.silence)

end Sys2Proof.Machine
end

