-- ==== Sys2Proof/Machine/Operands.lean ====
section
/-! DEFINITION. The layouts of chapter 13: byte order, codes, the CRC, frames, payloads, command arguments, record
images, and the numbers of states, policies, reasons and results. -/

namespace Sys2Proof.Machine

/-! ### Byte order (R203) -/

/-- A byte holding a number. -/
def byte (n : Nat) : Byte := BitVec.ofNat 8 n

/-- Two bytes, high byte first (R203). -/
def be16 (n : Nat) : List Byte := [byte (n / 256), byte n]

/-- A UID in six bytes, high byte first (R203). -/
def uidBytes (u : Uid) : List Byte :=
  [u.extractLsb' 40 8, u.extractLsb' 32 8, u.extractLsb' 24 8, u.extractLsb' 16 8, u.extractLsb' 8 8, u.extractLsb' 0 8]

/-- The byte at a position; 0 past the end. -/
def byteAt (bs : List Byte) (i : Nat) : Byte := bs.getD i 0

/-- The number in the byte at a position. -/
def natAt (bs : List Byte) (i : Nat) : Nat := (byteAt bs i).toNat

/-- The number in two bytes, high byte first (R203). -/
def wordAt (bs : List Byte) (i : Nat) : Nat := 256 * natAt bs i + natAt bs (i + 1)

/-- The UID in six bytes, high byte first (R203). -/
def uidAt (bs : List Byte) (i : Nat) : Uid :=
  byteAt bs i ++ byteAt bs (i + 1) ++ byteAt bs (i + 2) ++ byteAt bs (i + 3) ++ byteAt bs (i + 4) ++ byteAt bs (i + 5)

/-- A flag byte: 1 for set, 0 for clear (R203). -/
def flagByte (b : Bool) : Byte := if b then 1 else 0

/-- 0000-0000-0000 and FFFF-FFFF-FFFF are invalid UIDs (00 section 5). -/
def validUid (u : Uid) : Bool := u != 0 && u != BitVec.allOnes 48

/-- An assignable station address, 1..60 (00 section 5). -/
def assignable (a : Nat) : Bool := decide (1 ≤ a) && decide (a ≤ 60)

/-! ### Numbers (R160, R174, R183, R207) -/

def stateNumber (s : RecState) : Nat :=
  match s with
  | .reserved => 1
  | .offered => 2
  | .bound => 3
  | .lapsed => 4
  | .evicting => 5
  | .barred => 6

def policyNumber (p : Policy) : Nat :=
  match p with
  | .openAll => 0
  | .approve => 1
  | .closed => 2

def policyOfNumber (n : Nat) : Policy :=
  match n with
  | 0 => .openAll
  | 1 => .approve
  | _ => .closed

def resultNumber (c : ResultCode) : Nat :=
  match c with
  | .done => 0
  | .notFound => 1
  | .badState => 2
  | .full => 3
  | .inUse => 4
  | .duplicate => 5
  | .badArgument => 6
  | .badCommand => 7
  | .limit => 8

/-- The reasons of a REFUSE answer (R162). -/
inductive Reason where
  | unknown
  | barred
  | full
  | busy
  | notBound
  | retired
  | malformed
  | unsupported
  | noGroup
  | groupFull
  | groupClosed
  | groupLimit
  | retry
  | badUid
deriving DecidableEq, Repr

def reasonNumber (r : Reason) : Nat :=
  match r with
  | .unknown => 1
  | .barred => 2
  | .full => 3
  | .busy => 4
  | .notBound => 5
  | .retired => 6
  | .malformed => 7
  | .unsupported => 8
  | .noGroup => 9
  | .groupFull => 10
  | .groupClosed => 11
  | .groupLimit => 12
  | .retry => 13
  | .badUid => 14

/-! ### Frames (R129, R204) -/

/-- One bit into the CRC register: polynomial x^16 + x^12 + x^5 + 1 (R129). -/
def crcBit (c : BitVec 16) (b : Bool) : BitVec 16 :=
  if c.getLsbD 15 != b then (c <<< 1) ^^^ 0x1021#16 else c <<< 1

/-- One byte into the CRC register, most significant bit first (R129). -/
def crcByte (c : BitVec 16) (b : Byte) : BitVec 16 :=
  [7, 6, 5, 4, 3, 2, 1, 0].foldl (fun c i => crcBit c (b.getLsbD i)) c

/-- The CRC over covered bytes, preset to all ones and not inverted (R129). -/
def crcOf (bs : List Byte) : BitVec 16 := bs.foldl crcByte 0xFFFF#16

/-- Byte 0 to the last payload byte of a frame from the L64, with source 0 (R204). -/
def coveredBytes (f : Frame) : List Byte :=
  [byte (64 * f.ftype + f.dest), 0, f.code, f.tag, byte f.payload.length] ++ f.payload

/-- A whole frame with its CRC, high byte first (R204). -/
def frameBytes (f : Frame) : List Byte := coveredBytes f ++ be16 (crcOf (coveredBytes f)).toNat

/-! ### Requests (R155, R205) -/

/-- The payload length of a request code the roster serves; none for any other code (R155). -/
def requestLength (code : Byte) : Option Nat :=
  match code.toNat with
  | 0x01 => some 8
  | 0x02 => some 6
  | 0x03 => some 6
  | 0x04 => some 6
  | 0x10 => some 6
  | 0x11 => some 1
  | 0x12 => some 1
  | 0x13 => some 0
  | 0x20 => some 1
  | 0x21 => some 1
  | _ => none

/-- JOIN, CONFIRM, RENEW or LEAVE: a life-cycle request, whose payload begins with its sender's UID (2.1). -/
def lifeCycleCode (code : Byte) : Bool := decide (1 ≤ code.toNat) && decide (code.toNat ≤ 4)

/-- A lookup or group request (R158). -/
def lookupOrGroupCode (code : Byte) : Bool := (requestLength code).isSome && !lifeCycleCode code

/-- The UID that leads the payload of a life-cycle request or RESOLVE (R205). -/
def Request.uid (r : Request) : Uid := uidAt r.payload 0

/-- The class in a JOIN (R205). -/
def Request.cls (r : Request) : Byte := byteAt r.payload 6

/-- The preferred address P of a JOIN (R205). -/
def Request.preferred (r : Request) : Nat := natAt r.payload 7

/-- P as an APQ item keeps it: present when it is 1..60 (R76). -/
def Request.preferredAssignable (r : Request) : Option Nat :=
  if assignable r.preferred then some r.preferred else none

/-- A group list: a count, then the group numbers (R160). -/
def groupListBytes (gs : List Nat) : List Byte := byte gs.length :: gs.map byte

/-- A label: a length, then its bytes (R160). -/
def labelBytes (l : List Byte) : List Byte := byte l.length :: l

/-! ### Host commands (R172, R206 to R208) -/

/-- The argument length of a command code; none when the code is unknown, or when a count field would place a later
field beyond N or N is above 48 (R172). `args` are the argument bytes. -/
def commandLength (code : Byte) (args : List Byte) : Option Nat :=
  match code.toNat with
  | 0x10 => some 1
  | 0x11 => some 6
  | 0x12 => some 1
  | 0x13 => some 3
  | 0x20 => some (10 + natAt args 8 + natAt args (9 + natAt args 8))
  | 0x21 =>
    let pin := if (byteAt args 1).getLsbD 1 then 1 else 0
    let res := if (byteAt args 1).getLsbD 2 then 1 else 0
    let lab := if (byteAt args 1).getLsbD 0 then 1 + natAt args (2 + pin + res) else 0
    some (2 + pin + res + lab)
  | 0x22 => some 1
  | 0x23 => some 1
  | 0x24 => some 6
  | 0x30 => some 6
  | 0x31 => some 7
  | 0x32 => some 1
  | 0x40 => some 2
  | 0x41 => some 2
  | 0x42 => some 1
  | 0x43 => some 1
  | 0x44 => some 2
  | 0x50 => some (3 * (args.length / 3))
  | 0x51 => some 0
  | 0x52 => some 1
  | 0x53 => some 0
  | 0x54 => some 0
  | 0x60 => some 0
  | 0x61 => some 2
  | 0x62 => some 0
  | _ => none

/-- The command passes the command unit's check: a known code, and N the length the table gives and at most 48
(R172). -/
def commandOk (code : Byte) (args : List Byte) : Bool :=
  commandLength code args == some args.length && decide (args.length ≤ 48)

/-- The record image of a slot's record (R208). -/
def recordImage (slot : Nat) (r : Record) : List Byte :=
  [byte slot, byte (stateNumber r.state),
    byte ((if r.origin = .host then 1 else 0) + (if r.reserved then 2 else 0) + (if r.pinned then 4 else 0))]
  ++ uidBytes r.uid ++ [byte (r.address.getD 0)] ++ be16 (r.remaining.getD 0)
  ++ [r.cls, byte r.binds, byte r.conflicts] ++ groupListBytes r.groups ++ labelBytes r.label

/-- A LIST summary (R178, R207). -/
def listSummary (slot : Nat) (r : Record) : List Byte :=
  [byte slot, byte (stateNumber r.state), byte (r.address.getD 0)] ++ uidBytes r.uid

/-- An item of READ QUEUE (R86, R207). -/
def queueItemBytes (i : ApqItem) : List Byte :=
  uidBytes i.uid ++ [i.cls, byte (i.preferred.getD 0), byte i.remaining]

/-- A GROUP READ member word: slot in bits 15..10, state in bits 9..7, address in bits 5..0 (R207). -/
def memberWord (slot : Nat) (r : Record) : Nat :=
  1024 * slot + 128 * stateNumber r.state + r.address.getD 0

/-- An item of READ POOL part 1: address in bits 15..10 and remaining time in bits 9..0 of a word, then the UID
(R207). -/
def poolItemBytes (i : HoldItem) : List Byte := be16 (1024 * i.address + i.remaining) ++ uidBytes i.uid

/-- The values of the thirteen parameters in the order of their numbers (R183, R185). -/
def Params.values (p : Params) : List Nat :=
  [p.leaseTime, p.graceTime, p.offerTime, p.holdTime, p.approveTime, p.beaconPeriod, p.joinSlots, policyNumber p.policy,
    (if p.adoption then 1 else 0), p.txAttempts, p.conflictLimit, p.lineRate, p.noticeEnable.toNat]

/-- The values of the eight counters in the order of their numbers (R193). -/
def Counters.values (c : Counters) : List Nat :=
  [c.accepted, c.crcErrors, c.framing, c.malformed, c.overruns, c.late, c.abandons, c.conflicts]

/-- The pairs of a CONFIGURE: parameter number and value (R183). -/
def configPairs (args : List Byte) : List (Nat × Nat) :=
  (List.range (args.length / 3)).map fun i => (natAt args (3 * i), wordAt args (3 * i + 1))

/-- A parameter's value lies in its range (R183). A number outside 1..13 has no range. -/
def valueInRange (number value : Nat) : Bool :=
  match number with
  | 1 => decide (10 ≤ value) && decide (value ≤ 3600)
  | 2 => decide (value ≤ 255)
  | 3 => decide (1 ≤ value) && decide (value ≤ 15)
  | 4 => decide (value ≤ 600)
  | 5 => decide (5 ≤ value) && decide (value ≤ 255)
  | 6 => decide (50 ≤ value) && decide (value ≤ 2000) && decide (value % 10 = 0)
  | 7 => decide (value ≤ 8)
  | 8 => decide (value ≤ 2)
  | 9 => decide (value ≤ 1)
  | 10 => decide (1 ≤ value) && decide (value ≤ 7)
  | 11 => decide (1 ≤ value) && decide (value ≤ 15)
  | 12 => decide (value ≤ 6)
  | 13 => decide (value ≤ 511)
  | _ => false

/-- One parameter set to a value in its range (R183). -/
def Params.set (p : Params) (pair : Nat × Nat) : Params :=
  match pair.1 with
  | 1 => { p with leaseTime := pair.2 }
  | 2 => { p with graceTime := pair.2 }
  | 3 => { p with offerTime := pair.2 }
  | 4 => { p with holdTime := pair.2 }
  | 5 => { p with approveTime := pair.2 }
  | 6 => { p with beaconPeriod := pair.2 }
  | 7 => { p with joinSlots := pair.2 }
  | 8 => { p with policy := policyOfNumber pair.2 }
  | 9 => { p with adoption := pair.2 == 1 }
  | 10 => { p with txAttempts := pair.2 }
  | 11 => { p with conflictLimit := pair.2 }
  | 12 => { p with lineRate := pair.2 }
  | 13 => { p with noticeEnable := BitVec.ofNat 9 pair.2 }
  | _ => p

end Sys2Proof.Machine
end

