-- ==== Sys2Proof/Machine/Flags.lean ====
section
/-! DEFINITION. The flags: change bits, notices, counters, the conflict latch, the status byte, and the output pins. -/

namespace Sys2Proof.Machine

/-- The seven notices (R189). -/
inductive Notice where
  | approvalAdded
  | approvalExpired
  | poolExhausted
  | requestOverrun
  | answerLate
  | transmitAbandoned
  | conflictLimit
deriving DecidableEq, Repr

/-- The place of a notice in the notice byte (R206). -/
def noticeBit (n : Notice) : Nat :=
  match n with
  | .approvalAdded => 0
  | .approvalExpired => 1
  | .poolExhausted => 2
  | .requestOverrun => 3
  | .answerLate => 4
  | .transmitAbandoned => 5
  | .conflictLimit => 6

/-- A slot's change bit is set (R188), and it is no longer unrepeated in a CHANGES snapshot (R191). -/
def Cn.markChange (slot : Nat) (c : Cn) : Cn :=
  { c with changes := c.changes ||| BitVec.twoPow 64 slot, marks := c.marks &&& ~~~(BitVec.twoPow 64 slot) }

/-- A notice flag is set (R189), and it is no longer unrepeated in a CHANGES snapshot (R191). -/
def Cn.setNotice (n : Notice) (c : Cn) : Cn :=
  { c with notices := c.notices ||| BitVec.twoPow 7 (noticeBit n),
           noticeMarks := c.noticeMarks &&& ~~~(BitVec.twoPow 7 (noticeBit n)) }

/-- A counter is incremented by 1 and stops at 65 535 (R193). -/
def bump (n : Nat) : Nat := min (n + 1) 65535

/-- A conflict fills an empty latch, or sets the overflow flag of a full one (R94). -/
def Cn.latchConflict (address slot : Nat) (intruder : Uid) (code : Byte) (c : Cn) : Cn :=
  { c with latch := match c.latch with
      | none => some ⟨address, slot, intruder, code, false⟩
      | some l => some { l with overflow := true } }

/-- ROSTER CLEAR clears the change set and the notices and empties the latch (R201); what a CHANGES snapshot held is
left with nothing to clear (R191). The counters are kept. -/
def Cn.clearStores (c : Cn) : Cn :=
  { c with changes := 0, marks := 0, notices := 0, noticeMarks := 0, latch := none }

def State.markChange (slot : Nat) (s : State) : State := { s with cn := s.cn.markChange slot }
def State.setNotice (n : Notice) (s : State) : State := { s with cn := s.cn.setNotice n }

def State.countAccepted (s : State) : State :=
  { s with cn := { s.cn with counters := { s.cn.counters with accepted := bump s.cn.counters.accepted } } }
def State.countCrcError (s : State) : State :=
  { s with cn := { s.cn with counters := { s.cn.counters with crcErrors := bump s.cn.counters.crcErrors } } }
def State.countFraming (s : State) : State :=
  { s with cn := { s.cn with counters := { s.cn.counters with framing := bump s.cn.counters.framing } } }
def State.countMalformed (s : State) : State :=
  { s with cn := { s.cn with counters := { s.cn.counters with malformed := bump s.cn.counters.malformed } } }
def State.countOverrun (s : State) : State :=
  { s with cn := { s.cn with counters := { s.cn.counters with overruns := bump s.cn.counters.overruns } } }
def State.countLate (s : State) : State :=
  { s with cn := { s.cn with counters := { s.cn.counters with late := bump s.cn.counters.late } } }
def State.countAbandon (s : State) : State :=
  { s with cn := { s.cn with counters := { s.cn.counters with abandons := bump s.cn.counters.abandons } } }
def State.countConflict (s : State) : State :=
  { s with cn := { s.cn with counters := { s.cn.counters with conflicts := bump s.cn.counters.conflicts } } }

/-- A late request discarded, or a late answer removed: the counter and ANSWER_LATE (R137, R141). -/
def State.noteLate (s : State) : State := s.countLate.setNotice .answerLate

/-! ### What the host sees -/

/-- The command unit is EXECUTING (R170). -/
def CmdUnit.busy (c : CmdUnit) : Bool :=
  match c with
  | .executing _ _ => true
  | _ => false

/-- The command unit is RESULT_READY (R170). -/
def CmdUnit.resultReady (c : CmdUnit) : Bool :=
  match c with
  | .ready _ => true
  | _ => false

/-- The status byte: HELD, CMD_BUSY, RESULT_READY, CHANGES_PENDING, NOTICE_PENDING, CONFLICT_LATCHED, SUBMIT_REFUSED, 0
from bit 7 down (R168, R206). -/
def State.statusByte (s : State) : Byte :=
  BitVec.ofBool (s.ctl.mode == .held) ++ BitVec.ofBool s.cu.busy ++ BitVec.ofBool s.cu.resultReady
    ++ BitVec.ofBool (s.cn.changes != 0) ++ BitVec.ofBool (s.cn.notices != 0) ++ BitVec.ofBool s.cn.latch.isSome
    ++ BitVec.ofBool s.hp.refused ++ 0#1

/-- Some condition that drives INT_N low holds (R195). Enables 6..0 are the notices', 7 CHANGE, 8 DONE (R206). -/
def State.interrupt (s : State) : Bool :=
  (s.cn.changes != 0 && s.cfg.noticeEnable.getLsbD 7)
    || (s.cn.notices &&& s.cfg.noticeEnable.setWidth 7) != 0
    || (s.cu.resultReady && s.cfg.noticeEnable.getLsbD 8)
    || (s.cn.latch.isSome && s.cfg.noticeEnable.getLsbD 6)

/-- INT_N: high in reset and while no condition holds (R195, R196). -/
def State.intN (s : State) : Bool := s.inReset || !s.interrupt

/-- The character on TXD, of an attempt or of a cut one (R209). -/
def State.driving (s : State) : Option Drive :=
  match s.ltx.state with
  | .sending a => some a.drive
  | _ => s.ltx.tail

/-- DE: asserted from the start edge of an attempt's first character to the end of its last, aborted or cut one
(R139, R209). -/
def State.de (s : State) : Bool := s.driving.isSome

/-- The level of a bit position of a character: start 0, data least significant bit first, mark, stop 1 (R204). -/
def charLevel (b : Byte) (mark : Bool) (position : Nat) : Bool :=
  if position = 0 then false
  else if position ≤ 8 then b.getLsbD (position - 1)
  else if position = 9 then mark
  else true

/-- TXD: the bits of the character being driven, and 1 at all other times (R209). -/
def State.txd (s : State) : Bool :=
  match s.driving with
  | none => true
  | some d => charLevel d.byte d.mark ((s.now - d.start) / d.bit)

/-- SDO is driven from CS_N falling to CS_N rising, outside reset and start-up (R167, R209). -/
def State.sdoDriven (s : State) : Bool := s.hp.txn.isSome

/-- LTX is sending an attempt, or still driving the character at which one was cut (R130). -/
def State.attemptActive (s : State) : Bool := s.driving.isSome

end Sys2Proof.Machine
end

