-- ==== Sys2Proof/Machine/Ops.lean ====
section
/-! DEFINITION. The named operations: lookups, custody of addresses, records, groups, queues, answers and results. Every
command's meaning is written over these. -/

namespace Sys2Proof.Machine

/-! ### Updates of one block of the state -/

def State.setTable (t : List (Option Record)) (s : State) : State := { s with ros := { s.ros with table := t } }
def State.setFree (f : List Nat) (s : State) : State := { s with ros := { s.ros with free := f } }
def State.setHold (h : List HoldItem) (s : State) : State := { s with ros := { s.ros with hold := h } }
def State.setApq (q : List ApqItem) (s : State) : State := { s with ros := { s.ros with apq := q } }
def State.setGroups (g : List Group) (s : State) : State := { s with ros := { s.ros with groups := g } }
def State.setRxq (q : List Request) (s : State) : State := { s with rxq := q }
def State.setTxq (q : List Entry) (s : State) : State := { s with txq := q }
def State.setLtx (l : Ltx) (s : State) : State := { s with ltx := l }
def State.setLrx (l : Lrx) (s : State) : State := { s with lrx := l }
def State.setCompletions (c : List Nat) (s : State) : State := { s with completions := c }
def State.setCtl (c : ModeControl) (s : State) : State := { s with ctl := c }
def State.setClk (c : Clocks) (s : State) : State := { s with clk := c }
def State.setCfg (p : Params) (s : State) : State := { s with cfg := p }
def State.setCu (c : CmdUnit) (s : State) : State := { s with cu := c }
def State.setHp (p : Port) (s : State) : State := { s with hp := p }
def State.setCn (c : Cn) (s : State) : State := { s with cn := c }

/-! ### The roster table and its views -/

/-- The record of a slot; none for a VACANT slot (R1). -/
def State.recordAt (s : State) (slot : Nat) : Option Record := (s.ros.table[slot]?).join

/-- The record stored in a slot. -/
def State.putRecord (slot : Nat) (r : Record) (s : State) : State := s.setTable (s.ros.table.set slot (some r))

/-- A slot's record satisfies a test. -/
def slotHas (p : Record → Bool) (o : Option Record) : Bool :=
  match o with
  | some r => p r
  | none => false

/-- The lowest slot whose record satisfies a test, with the record. -/
def State.findRecord (p : Record → Bool) (s : State) : Option (Nat × Record) :=
  match s.ros.table.findIdx? (slotHas p) with
  | some slot => (s.recordAt slot).map fun r => (slot, r)
  | none => none

/-- The identity index: the slot and record of a UID (R18). -/
def State.findUid (u : Uid) (s : State) : Option (Nat × Record) := s.findRecord fun r => r.uid == u

/-- The address map: the slot and record that hold an address (R20). -/
def State.findAddr (a : Nat) (s : State) : Option (Nat × Record) := s.findRecord fun r => r.address == some a

/-- The lowest-numbered VACANT slot (R2). -/
def State.vacantSlot (s : State) : Option Nat := s.ros.table.findIdx? Option.isNone

/-- The number of records in BOUND (R165). -/
def State.boundCount (s : State) : Nat := s.ros.table.countP (slotHas fun r => r.state == .bound)

/-- An active state: OFFERED, BOUND, LAPSED or EVICTING (R17). -/
def RecState.active (s : RecState) : Bool :=
  match s with
  | .offered | .bound | .lapsed | .evicting => true
  | .reserved | .barred => false

/-! ### Address custody (1.6, 1.7) -/

/-- An address given up by UID `u` enters the hold-down set as the newest item, or with HOLD_TIME 0 goes to the tail of
the free list (R23). -/
def State.giveUp (a : Nat) (u : Uid) (s : State) : State :=
  if s.cfg.holdTime = 0 then s.setFree (s.ros.free ++ [a])
  else s.setHold (s.ros.hold ++ [{ address := a, uid := u, remaining := s.cfg.holdTime }])

/-- The address of a record, when it holds one, is given up (R23). -/
def State.giveUpOf (r : Record) (s : State) : State :=
  match r.address with
  | some a => s.giveUp a r.uid
  | none => s

/-- Custody after an address has left the free list or the hold-down set: the free list and the hold-down set. -/
abbrev Custody := List Nat × List HoldItem

/-- The claim of a named address for a UID: out of the free list, or out of a hold-down item that remembers the UID
(R25). -/
def claim (a : Nat) (u : Uid) (c : Custody) : Option Custody :=
  if a ∈ c.1 then some (c.1.erase a, c.2)
  else if c.2.any (fun i => i.address == a && i.uid == u) then
    some (c.1, c.2.eraseP fun i => i.address == a && i.uid == u)
  else none

/-- The assignment order, steps 1 to 5 (R26): `held` is the reserved address of a RESERVED record, `p` the preferred
address. -/
def assign (held : Option Nat) (u : Uid) (p : Nat) (c : Custody) : Option (Nat × Custody) :=
  match held with
  | some a => some (a, c)
  | none =>
    match c.2.find? (fun i => i.uid == u) with
    | some i => some (i.address, (c.1, c.2.eraseP fun i => i.uid == u))
    | none =>
      if assignable p && decide (p ∈ c.1) then some (p, (c.1.erase p, c.2))
      else
        match c.1 with
        | a :: rest => some (a, (rest, c.2))
        | [] => none

/-- The free list and the hold-down set. -/
def State.custody (s : State) : Custody := (s.ros.free, s.ros.hold)

/-- The free list and the hold-down set replaced. -/
def State.setCustody (c : Custody) (s : State) : State := (s.setFree c.1).setHold c.2

/-! ### Records -/

/-- The lease a record is granted: LEASE_TIME, or 0 when it is pinned (R29). -/
def State.leaseOf (r : Record) (s : State) : Nat := if r.pinned then 0 else s.cfg.leaseTime

/-- The lease timer of a record entering or restarting BOUND: LEASE_TIME, or none when pinned (R63). -/
def State.leaseTimer (r : Record) (s : State) : Option Nat := if r.pinned then none else some s.cfg.leaseTime

/-- A count that stops at a limit (R12, R13). -/
def saturate (limit n : Nat) : Nat := min (n + 1) limit

/-- A new record as R16 makes it, apart from what each path gives. -/
def newRecord (state : RecState) (origin : Origin) (u : Uid) (address : Option Nat) (remaining : Option Nat)
    (cls : Byte) (binds : Nat) : Record where
  state := state
  origin := origin
  uid := u
  address := address
  reserved := false
  pinned := false
  remaining := remaining
  cls := cls
  binds := binds
  conflicts := 0
  groups := []
  label := []

/-- The APQ item of a UID is removed, with its pending expiry (R19, R87). -/
def State.dropApq (u : Uid) (s : State) : State := s.setApq (s.ros.apq.eraseP fun i => i.uid == u)

/-- A record is created in a slot: the APQ item of its UID goes, and the slot's change bit is set (R16, R19). -/
def State.create (slot : Nat) (r : Record) (s : State) : State :=
  ((s.putRecord slot r).dropApq r.uid).markChange slot

/-- The record of a slot replaced, and the slot's change bit set (R188). -/
def State.change (slot : Nat) (r : Record) (s : State) : State := (s.putRecord slot r).markChange slot

/-! ### Groups (chapter 6) -/

/-- Group `g`; a closed, empty one for a number above 15. -/
def State.group (g : Nat) (s : State) : Group := s.ros.groups.getD g ⟨false, []⟩

/-- The member list of group `g` replaced. -/
def State.setMembers (g : Nat) (ms : List Nat) (s : State) : State :=
  s.setGroups (s.ros.groups.modify g fun x => { x with members := ms })

/-- A slot joins a group: appended to the member list, and the number to the record's groups (R109). -/
def State.joinGroup (slot g : Nat) (s : State) : State :=
  match s.recordAt slot with
  | some r => ((s.putRecord slot { r with groups := r.groups ++ [g] }).setMembers g ((s.group g).members ++ [slot])).markChange slot
  | none => s

/-- The group number taken out of a slot's record (R109). A VACANT slot has nothing to take it out of. -/
def State.dropGroup (slot g : Nat) (s : State) : State :=
  match s.recordAt slot with
  | some r => s.putRecord slot { r with groups := r.groups.erase g }
  | none => s

/-- A slot leaves a group, with the order of both lists kept (R109). -/
def State.leaveGroup (slot g : Nat) (s : State) : State :=
  ((s.dropGroup slot g).setMembers g ((s.group g).members.erase slot)).markChange slot

/-- A slot is taken out of every member list (R3, R105). -/
def State.leaveAll (slot : Nat) (s : State) : State :=
  s.setGroups (s.ros.groups.map fun x => { x with members := x.members.erase slot })

/-! ### Removal and release (R3, R52 to R55) -/

/-- A record is removed: the slot leaves every group and becomes VACANT, and its change bit is set (R3). -/
def State.remove (slot : Nat) (s : State) : State :=
  ((s.leaveAll slot).setTable (s.ros.table.set slot none)).markChange slot

/-- The release rule: a reserved HOST record returns to RESERVED with its address, another HOST record to RESERVED
without it, a LINE record is removed; an address not kept is given up (R52 to R55). -/
def State.releaseRecord (slot : Nat) (r : Record) (s : State) : State :=
  match r.origin with
  | .line => (s.remove slot).giveUpOf r
  | .host =>
    if r.reserved then s.change slot { r with state := .reserved, remaining := none }
    else (s.change slot { r with state := .reserved, remaining := none, address := none }).giveUpOf r

/-! ### Answers (9.4) -/

/-- The destination of a request's answer: 61 for a JOIN or a request from 61, else the source (R159). -/
def answerDest (r : Request) : Nat := if r.code = 0x01 then 61 else r.source

/-- The UID that leads an answer to 61: that of a life-cycle request of the right length (R159). -/
def leadUid (r : Request) : List Byte :=
  if answerDest r = 61 ∧ lifeCycleCode r.code = true ∧ requestLength r.code = some r.payload.length then uidBytes r.uid
  else []

/-- The ANSWER entry of a request (R136, R159). -/
def answerEntry (r : Request) (code : Byte) (payload : List Byte) : Entry :=
  ⟨.answer r.deadline, ⟨1, answerDest r, code, r.tag, payload⟩, 0, false⟩

/-- A frame entry placed at the tail of TXQ (R136). -/
def State.enqueue (e : Entry) (s : State) : State := s.setTxq (s.txq ++ [e])

/-- An ACK with its contents (R160). -/
def State.ack (r : Request) (contents : List Byte) (s : State) : State :=
  s.enqueue (answerEntry r 0x80 (leadUid r ++ contents))

/-- A WAIT with its reason, HELD 1 or PENDING 2, and the retry interval BEACON_PERIOD / 10 (R161). -/
def State.wait (r : Request) (reason : Nat) (s : State) : State :=
  s.enqueue (answerEntry r 0x81 (leadUid r ++ [byte reason, byte (s.cfg.beaconPeriod / 10)]))

/-- A REFUSE with its reason (R162). -/
def State.refuse (r : Request) (reason : Reason) (s : State) : State :=
  s.enqueue (answerEntry r 0x82 (leadUid r ++ [byte (reasonNumber reason)]))

/-- The epoch in two bytes, as the frames that carry it do (R200). -/
def State.epochBytes (s : State) : List Byte := be16 s.ctl.epoch.toNat

/-- What an OFFER carries: UID, address, lease, offer time, epoch (R37, R83, R205). -/
def State.offerPayload (rd : Record) (s : State) : List Byte :=
  uidBytes rd.uid ++ [byte (rd.address.getD 0)] ++ be16 (s.leaseOf rd) ++ [byte s.cfg.offerTime] ++ s.epochBytes

/-- The OFFER answering a JOIN, to 61 (R37). -/
def State.offer (r : Request) (rd : Record) (s : State) : State :=
  s.enqueue (answerEntry r 0x83 (s.offerPayload rd))

/-- The binding ACK: lease, group list, epoch (R29, R205). -/
def State.bindingAck (r : Request) (rd : Record) (s : State) : State :=
  s.ack r (be16 (s.leaseOf rd) ++ groupListBytes rd.groups ++ s.epochBytes)

/-- The plain ACK: the epoch (R29). -/
def State.plainAck (r : Request) (s : State) : State := s.ack r s.epochBytes

/-- An unsolicited entry: tag 0, no deadline (R83, R97, R136). -/
def unsolicitedEntry (kind : EntryKind) (dest : Nat) (code : Byte) (payload : List Byte) : Entry :=
  ⟨kind, ⟨2, dest, code, 0, payload⟩, 0, false⟩

/-! ### Taking a request (9.1 to 9.3) -/

/-- What TC does with the request it takes (R152). -/
inductive Admission where
  | late
  | badSource
  | waitHeld
  | unsupported
  | malformed
  | notBound
  | serve
deriving DecidableEq, Repr

/-- The record that holds an address is BOUND or LAPSED (R158). -/
def State.boundSource (a : Nat) (s : State) : Bool :=
  match s.findAddr a with
  | some (_, r) => r.state == .bound || r.state == .lapsed
  | none => false

/-- A deadline has passed at an instant; at the very instant, when the deadline is reached first (R137, R141)
[log 6]. -/
def deadlinePassed (deadline now : Nat) (deadlineFirst : Bool) : Bool :=
  decide (deadline < now) || (decide (deadline = now) && deadlineFirst)

/-- Checks 0 to 7 in their order (R152). -/
def State.admission (deadlineFirst : Bool) (r : Request) (s : State) : Admission :=
  if deadlinePassed r.deadline s.now deadlineFirst then .late
  else if r.source = 0 ∨ r.source = 62 ∨ r.source = 63 then .badSource
  else if s.ctl.mode = .held then .waitHeld
  else if requestLength r.code = none then .unsupported
  else if requestLength r.code ≠ some r.payload.length then .malformed
  else if r.source = 61 ∧ r.code ≠ 0x01 then .notBound
  else if lookupOrGroupCode r.code = true ∧ s.boundSource r.source = false then .notBound
  else .serve

/-- A request taken: the outcome of its admission, and at check 7 its owning rule `serve` (R152 to R158). -/
def State.decideRequest (deadlineFirst : Bool) (serve : Request → State → State) (r : Request) (s : State) : State :=
  match s.admission deadlineFirst r with
  | .late => s.noteLate
  | .badSource => s.countMalformed
  | .waitHeld => s.wait r 1
  | .unsupported => s.refuse r .unsupported
  | .malformed => s.refuse r .malformed
  | .notBound => s.refuse r .notBound
  | .serve => serve r s

/-- TC takes the head of RXQ, when it is a request of the kind `kind` and TXQ holds fewer than 6 entries (R134, R137).
Where there is no such request to take, nothing happens [log 3]. -/
def State.takeRequest (kind : Byte → Bool) (deadlineFirst : Bool) (serve : Request → State → State) (s : State) :
    State :=
  if s.inReset then s
  else
    match s.rxq with
    | [] => s
    | r :: rest =>
      if kind r.code && decide (s.txq.length < 6) then (s.setRxq rest).decideRequest deadlineFirst serve r else s

/-! ### Serving a host command (10.2) -/

/-- A result without payload (R174). -/
def result (c : ResultCode) : Result := ⟨c, []⟩

/-- DONE with a payload (R174). -/
def done (payload : List Byte) : Result := ⟨.done, payload⟩

/-- TC serves the command in the command slot, when it is the command of the code, and its result goes to the result
buffer (R170, R172). Where there is no such command to serve, nothing happens [log 3]. -/
def State.serveCommand (code : Byte) (run : List Byte → State → Result × State) (s : State) : State :=
  if s.inReset then s
  else
    match s.cu with
    | .executing c args =>
      if c = code ∧ commandOk c args = true then (run args s).2.setCu (.ready (run args s).1) else s
    | _ => s

/-! ### Entering HELD (R150, R198, R201) -/

/-- The clocks as the entry into HELD leaves them: the phase kept, the beacon timer stopped (R59, R146). -/
def Clocks.stop (c : Clocks) : Clocks := ⟨c.phase, none⟩

/-- The transmitter as HOLD leaves it: no beacon pending, no window, a beacon in an attempt cut after its character,
an attempt at a TXQ entry running on (R150). -/
def Ltx.enterHeld (l : Ltx) : Ltx :=
  match l.state with
  | .window _ => ⟨.ready, l.tail, false⟩
  | .sending a =>
    match a.kind with
    | .beacon _ => ⟨.ready, some a.drive, false⟩
    | .entry => ⟨.sending a, l.tail, false⟩
  | .ready => ⟨.ready, l.tail, false⟩
  | .backoff k aborted => ⟨.backoff k aborted, l.tail, false⟩

/-- The transmitter as ROSTER CLEAR leaves it: READY, any attempt cut after its character, no beacon pending (R151). -/
def Ltx.clear (l : Ltx) : Ltx :=
  match l.state with
  | .sending a => ⟨.ready, some a.drive, false⟩
  | _ => ⟨.ready, l.tail, false⟩

end Sys2Proof.Machine
end

