-- ==== Sys2Proof/Machine/Control.lean ====
section
/-! DEFINITION. Configuration and mode: CONFIGURE (10.6), CLEAR COUNTERS (R194), HOLD, RELEASE, ROSTER CLEAR (chapter
12). -/

namespace Sys2Proof.Machine

open Host (Outcome)

/-! ### CONFIGURE (R183, R184) -/

/-- An accepted change of LINE_RATE: the assemblers and the silence measure start again, and an attempt is aborted at
the end of its character, its own-frame span lasting until the line falls silent after it (R121, R125, R150). Whether
RXD last read 1 is known only while the measure waits for it (R122) [log 14]. A character of an attempt that HOLD or
ROSTER CLEAR has cut already gets no such span [log 31]. -/
def State.changeRate (s : State) : State :=
  let last := match s.lrx.chr, s.lrx.sil with
    | .waiting, .awaitOne last => last
    | _, _ => true
  let s1 := s.setLrx ⟨.waiting, s.lrx.bits, .outside, .awaitOne last, s.lrx.quiet⟩
  match s.ltx.state with
  | .sending a =>
    (s1.setLrx { s1.lrx with quiet := some a.drive.finish }).setLtx
      { s.ltx with state := .sending { a with abortAtEnd := true } }
  | _ => s1

/-- The checks of CONFIGURE; none when all pass (R183). -/
def State.configureCheck (pairs : List (Nat × Nat)) (s : State) : Option ResultCode :=
  if pairs.any (fun p => !valueInRange p.1 p.2) = true ∨ ¬ (pairs.map Prod.fst).Nodup then some .badArgument
  else if s.ctl.mode = .running ∧ 12 ∈ pairs.map Prod.fst then some .badState
  else none

/-- CONFIGURE served by TC: all the parameters it names, or none (R183). -/
def State.configure (args : List Byte) (s : State) : Result × State :=
  let pairs := configPairs args
  match s.configureCheck pairs with
  | some c => (result c, s)
  | none =>
    let cfg := pairs.foldl Params.set s.cfg
    (done [], (if cfg.lineRate = s.cfg.lineRate then s else s.changeRate).setCfg cfg)

/-! ### Counters (R194) -/

/-- CLEAR COUNTERS served by TC (R194). -/
def State.clearCounters (s : State) : Result × State :=
  (done [], s.setCn { s.cn with counters := Counters.zero })

/-! ### Mode (R198, R199, R201) -/

/-- The entry into HELD by HOLD (R198, R150). -/
def State.enterHeld (s : State) : State :=
  ((s.setCtl { s.ctl with mode := .held }).setClk s.clk.stop).setLtx s.ltx.enterHeld

/-- HOLD served by TC (R198). -/
def State.hold (s : State) : Result × State :=
  match s.ctl.mode with
  | .held => (result .badState, s)
  | .running => (done [], s.enterHeld)

/-- RELEASE served by TC (R199). -/
def State.release (args : List Byte) (s : State) : Result × State :=
  match s.ctl.mode with
  | .running => (result .badState, s)
  | .held =>
    (done [], ((s.setCtl ⟨.running, BitVec.ofNat 16 (wordAt args 0)⟩).setClk
      ⟨s.clk.phase, some ⟨0, beaconPeriods s.cfg.beaconPeriod⟩⟩).setLtx { s.ltx with beaconPending := true })

/-- ROSTER CLEAR served by TC (R201). -/
def State.rosterClear (s : State) : Result × State :=
  (done [], { s with
    ctl := { s.ctl with mode := .held }
    clk := s.clk.stop
    ros := Roster.empty
    rxq := []
    txq := []
    ltx := s.ltx.clear
    completions := []
    cn := s.cn.clearStores })

/-! ### The commands -/

/-- CONFIGURE (R183). -/
def execConfigure (s : State) : Outcome State Fault Refusal :=
  .next (s.serveCommand 0x50 fun args s => s.configure args)

/-- CLEAR_COUNTERS (R194). -/
def execClearCounters (s : State) : Outcome State Fault Refusal :=
  .next (s.serveCommand 0x54 fun _ s => s.clearCounters)

/-- HOLD (R198). -/
def execHold (s : State) : Outcome State Fault Refusal := .next (s.serveCommand 0x60 fun _ s => s.hold)

/-- RELEASE (R199). -/
def execRelease (s : State) : Outcome State Fault Refusal :=
  .next (s.serveCommand 0x61 fun args s => s.release args)

/-- ROSTER_CLEAR (R201). -/
def execRosterClear (s : State) : Outcome State Fault Refusal :=
  .next (s.serveCommand 0x62 fun _ s => s.rosterClear)

end Sys2Proof.Machine
end

