-- ==== Sys2Proof/Machine/Expiry.lean ====
section
/-! DEFINITION. The roster clock's second event and the claims TC serves without a request or command: lease, grace, offer,
hold-down and approval expiries, and eviction completions (chapters 3, 4, 5). -/

namespace Sys2Proof.Machine

open Host (Outcome)

/-- SECOND_EVENT: in RUNNING, CLKIN runs until the roster clock completes its second, which lowers every running timer
(R59, R60) [log 2]. In HELD and in reset no second event is raised (R62). -/
def execSecondEvent (s : State) : Outcome State Fault Refusal :=
  match s.inReset, s.ctl.mode with
  | false, .running => .next (s.advance (secondPeriods - s.clk.phase))
  | _, _ => .next s

/-- TC serves the pending expiry of a slot's record in the given state: its timer reads 0 (R61). -/
def State.serveExpiry (slot : Nat) (st : RecState) (act : Record → State → State) (s : State) : State :=
  if s.inReset then s
  else
    match s.recordAt slot with
    | some r => if r.state = st ∧ r.remaining = some 0 then act r s else s
    | none => s

/-- LEASE_EXPIRY: to LAPSED with a grace timer, or with GRACE_TIME 0 the release rule (R64). -/
def execLeaseExpiry (slot : Nat) (s : State) : Outcome State Fault Refusal :=
  .next (s.serveExpiry slot .bound fun r s =>
    if s.cfg.graceTime = 0 then s.releaseRecord slot r
    else s.change slot { r with state := .lapsed, remaining := some s.cfg.graceTime })

/-- GRACE_EXPIRY: the release rule (R65). -/
def execGraceExpiry (slot : Nat) (s : State) : Outcome State Fault Refusal :=
  .next (s.serveExpiry slot .lapsed fun r s => s.releaseRecord slot r)

/-- OFFER_EXPIRY: the release rule (R66). -/
def execOfferExpiry (slot : Nat) (s : State) : Outcome State Fault Refusal :=
  .next (s.serveExpiry slot .offered fun r s => s.releaseRecord slot r)

/-- The hold-down item of an address with its expiry pending, pending no shorter than any other: expiries of an earlier
second come first, those of one second in either order (R24). -/
def expiredHold (a : Nat) (all : List HoldItem) (i : HoldItem) : Bool :=
  i.address == a && i.remaining == 0 && all.all fun j => j.remaining != 0 || decide (j.overdue ≤ i.overdue)

/-- HOLD_DOWN_EXPIRY: the item leaves the set from wherever it stands and its address goes to the free list tail (R24,
R67). While an expiry of an earlier second is pending it is not yet its turn [log 3]. -/
def execHoldDownExpiry (a : Nat) (s : State) : Outcome State Fault Refusal :=
  if s.inReset then .next s
  else if s.ros.hold.any (expiredHold a s.ros.hold) then
    .next ((s.setHold (s.ros.hold.eraseP (expiredHold a s.ros.hold))).setFree (s.ros.free ++ [a]))
  else .next s

/-- The APQ item of a UID with its expiry pending. -/
def expiredItem (u : Uid) (i : ApqItem) : Bool := i.uid == u && i.remaining == 0

/-- APPROVAL_EXPIRY: the item is removed and APPROVAL_EXPIRED set (R81). -/
def execApprovalExpiry (u : Uid) (s : State) : Outcome State Fault Refusal :=
  if s.inReset then .next s
  else if s.ros.apq.any (expiredItem u) then
    .next ((s.setApq (s.ros.apq.eraseP (expiredItem u))).setNotice .approvalExpired)
  else .next s

/-- EVICTION_COMPLETION: the release rule on the EVICTING record whose EVICT frame was sent or abandoned (R99). -/
def execEvictionCompletion (slot : Nat) (s : State) : Outcome State Fault Refusal :=
  if s.inReset ∨ slot ∉ s.completions then .next s
  else
    let s1 := s.setCompletions (s.completions.erase slot)
    match s1.recordAt slot with
    | some r => if r.state = .evicting then .next (s1.releaseRecord slot r) else .next s1
    | none => .next s1

end Sys2Proof.Machine
end

