-- ==== Sys2Proof/Machine/HostGroups.lean ====
section
/-! DEFINITION. The host's group commands (6.2): GROUP ADD, GROUP REMOVE, GROUP CLEAR, GROUP OPEN. -/

namespace Sys2Proof.Machine

open Host (Outcome)

/-- GROUP ADD served by TC (R110). -/
def State.groupAdd (args : List Byte) (s : State) : Result × State :=
  let slot := natAt args 0
  let g := natAt args 1
  if 63 < slot ∨ 15 < g then (result .badArgument, s)
  else
    match s.recordAt slot with
    | none => (result .notFound, s)
    | some r =>
      if r.state = .barred then (result .badState, s)
      else if slot ∈ (s.group g).members then (result .duplicate, s)
      else if 4 ≤ r.groups.length then (result .limit, s)
      else if 24 ≤ (s.group g).members.length then (result .full, s)
      else (done [], s.joinGroup slot g)

/-- GROUP REMOVE served by TC (R111). -/
def State.groupRemove (args : List Byte) (s : State) : Result × State :=
  let slot := natAt args 0
  let g := natAt args 1
  if 63 < slot ∨ 15 < g then (result .badArgument, s)
  else if slot ∉ (s.group g).members then (result .notFound, s)
  else (done [], s.leaveGroup slot g)

/-- GROUP CLEAR served by TC: every member leaves, each with its change bit (R112). -/
def State.groupClear (args : List Byte) (s : State) : Result × State :=
  let g := natAt args 0
  if 15 < g then (result .badArgument, s)
  else
    let ms := (s.group g).members
    (done [byte ms.length], (ms.foldl (fun s slot => s.leaveGroup slot g) s))

/-- GROUP OPEN served by TC (R113). -/
def State.groupOpen (args : List Byte) (s : State) : Result × State :=
  let g := natAt args 0
  let flag := natAt args 1
  if 15 < g ∨ 1 < flag then (result .badArgument, s)
  else (done [], s.setGroups (s.ros.groups.modify g fun x => { x with isOpen := decide (flag = 1) }))

/-- GROUP_ADD (R110). -/
def execGroupAdd (s : State) : Outcome State Fault Refusal :=
  .next (s.serveCommand 0x40 fun args s => s.groupAdd args)

/-- GROUP_REMOVE (R111). -/
def execGroupRemove (s : State) : Outcome State Fault Refusal :=
  .next (s.serveCommand 0x41 fun args s => s.groupRemove args)

/-- GROUP_CLEAR (R112). -/
def execGroupClear (s : State) : Outcome State Fault Refusal :=
  .next (s.serveCommand 0x42 fun args s => s.groupClear args)

/-- GROUP_OPEN (R113). -/
def execGroupOpen (s : State) : Outcome State Fault Refusal :=
  .next (s.serveCommand 0x44 fun args s => s.groupOpen args)

end Sys2Proof.Machine
end

