-- ==== Sys2Proof/Machine/HostPort.lean ====
section
/-! DEFINITION. The host port's transactions (10.1, 10.2, 11.3). -/

namespace Sys2Proof.Machine

open Host (Outcome)

/-- The port serves transactions: out of reset and past the start-up interval (R167, R196). -/
def State.portReady (s : State) : Bool := !s.inReset && !s.startUp

/-- CS_N falls: the status byte is captured and is byte 0 out (R167, R168). A transaction whose CS_N fell in reset or
start-up is ignored whole (R196). -/
def State.portSelect (s : State) : State :=
  if s.portReady && s.hp.txn.isNone then s.setHp { s.hp with txn := some ⟨none, [], [], false⟩, sdo := [s.statusByte] }
  else s

/-- What byte 0's code prepares for SDO from byte 1 on, and whether a result or a full latch is reported. -/
abbrev Prepare := State → (List Byte × Bool) × State

/-- Byte 0 is complete: HP decodes the code (R167). -/
def State.portCode (code : Byte) (prepare : Prepare) (s : State) : State :=
  match s.hp.txn with
  | some t =>
    if t.code = none then
      let s1 := (prepare s).2
      s1.setHp { s1.hp with txn := some ⟨some code, [], (prepare s).1.1, (prepare s).1.2⟩ }
    else s
  | none => s

/-- The bytes that go out while `n` more bytes are counted after `count` bytes: prepared ones, then zero bytes; in
STATUS the status byte as it stands (R167, R169). -/
def State.portOut (t : Txn) (n : Nat) (s : State) : List Byte :=
  if t.code = some 0x01 then List.replicate n s.statusByte
  else (List.range n).map fun i => byteAt t.plan (t.ins.length + i)

/-- Further whole bytes are counted (R167). -/
def State.portClock (code : Byte) (bytes : List Byte) (s : State) : State :=
  match s.hp.txn with
  | some t =>
    if t.code = some code then
      s.setHp { s.hp with
        txn := some { t with ins := t.ins ++ bytes }, sdo := s.hp.sdo ++ s.portOut t bytes.length }
    else s
  | none => s

/-- CS_N rises: the transaction ends, and when byte 0 was complete its own rule acts (R167). -/
def State.portDeselect (code : Byte) (finish : Txn → State → State) (s : State) : State :=
  match s.hp.txn with
  | some t =>
    let s1 := s.setHp { s.hp with txn := none }
    if t.code = none then s1 else if t.code = some code then finish t s1 else s
  | none => s

/-- The parts of a transaction (R167). A part that no transaction of the row's code is in progress for does nothing
[log 12]. -/
def State.transaction (code : Byte) (prepare : Prepare) (finish : Txn → State → State) (phase : PortPhase) (s : State) :
    State :=
  match phase with
  | .select => s.portSelect
  | .code => s.portCode code prepare
  | .clock bytes => s.portClock code bytes
  | .deselect => s.portDeselect code finish
  | .whole bytes =>
    if s.portReady && s.hp.txn.isNone then
      ((s.portSelect.portCode code prepare).portClock code bytes).portDeselect code finish
    else s

/-- Nothing prepared: zero bytes go out. -/
def prepareNothing : Prepare := fun s => (([], false), s)

/-- Nothing happens at CS_N rising. -/
def finishNothing : Txn → State → State := fun _ s => s

/-! ### SUBMIT (R171, R172) -/

/-- A complete SUBMIT: accepted in IDLE, where a command that fails the command unit's check is completed at once with
BAD_COMMAND (R172); refused otherwise. -/
def State.submitCommand (code : Byte) (args : List Byte) (s : State) : State :=
  match s.cu with
  | .idle =>
    (s.setHp { s.hp with refused := false }).setCu
      (if commandOk code args then .executing code (args.take 48) else .ready (result .badCommand))
  | _ => s.setHp { s.hp with refused := true }

/-- A SUBMIT at CS_N rising: cut short with fewer than 3 + N bytes, else decided; bytes beyond are ignored (R171). -/
def finishSubmit (t : Txn) (s : State) : State :=
  let n := natAt t.ins 1
  if t.ins.length < 2 ∨ t.ins.length < 2 + n then s
  else s.submitCommand (byteAt t.ins 0) ((t.ins.drop 2).take n)

/-! ### FETCH (R173) -/

/-- A result as FETCH sends it: code, length, payload (R173). -/
def resultBytes (r : Result) : List Byte := byte (resultNumber r.code) :: byte r.payload.length :: r.payload

/-- At the end of byte 0 FETCH takes the result, or "no result" (R173). -/
def prepareFetch : Prepare := fun s =>
  match s.cu with
  | .ready r => ((resultBytes r, true), s)
  | _ => (([0xFF, 0], false), s)

/-- A completed FETCH of a result empties the buffer (R173). -/
def finishFetch (t : Txn) (s : State) : State :=
  if t.loaded ∧ t.plan.length ≤ t.ins.length then s.setCu .idle else s

/-! ### CHANGES and CONFLICT (R191, R192) -/

/-- The 64 change bits in eight bytes, slot 0 at bit 0 of the first (R206). -/
def changeBytes (c : BitVec 64) : List Byte := (List.range 8).map fun k => c.extractLsb' (8 * k) 8

/-- At the end of byte 0 CN takes its snapshot and marks all of it unrepeated (R191). -/
def prepareChanges : Prepare := fun s =>
  ((changeBytes s.cn.changes ++ [s.cn.notices.setWidth 8], false),
    s.setCn { s.cn with marks := s.cn.changes, noticeMarks := s.cn.notices })

/-- A CHANGES transaction at CS_N rising: complete with 10 bytes, it clears what it reported and was not set again; cut
short, it clears nothing; the snapshot goes (R191). -/
def finishChanges (t : Txn) (s : State) : State :=
  let clear := decide (9 ≤ t.ins.length)
  s.setCn { s.cn with
    changes := if clear then s.cn.changes &&& ~~~s.cn.marks else s.cn.changes
    notices := if clear then s.cn.notices &&& ~~~s.cn.noticeMarks else s.cn.notices
    marks := 0
    noticeMarks := 0 }

/-- The conflict latch in bytes 1 to 10 (R192, R206). -/
def latchBytes (l : Option Latch) : List Byte :=
  match l with
  | none => List.replicate 10 0
  | some l => [byte (1 + if l.overflow then 2 else 0), byte l.address, byte l.slot] ++ uidBytes l.intruder ++ [l.code]

/-- At the end of byte 0 CN takes a snapshot of the latch (R192). -/
def prepareConflict : Prepare := fun s => ((latchBytes s.cn.latch, s.cn.latch.isSome), s)

/-- A complete CONFLICT transaction, of 11 bytes, that reported a full latch empties it (R192). -/
def finishConflict (t : Txn) (s : State) : State :=
  if t.loaded ∧ 10 ≤ t.ins.length then s.setCn { s.cn with latch := none } else s

/-! ### The commands -/

/-- STATUS (R169). -/
def execStatus (dt : Nat) (phase : PortPhase) (s : State) : Outcome State Fault Refusal :=
  .next ((s.advance dt).transaction 0x01 prepareNothing finishNothing phase)

/-- SUBMIT (R171). -/
def execSubmit (dt : Nat) (phase : PortPhase) (s : State) : Outcome State Fault Refusal :=
  .next ((s.advance dt).transaction 0x02 prepareNothing finishSubmit phase)

/-- FETCH (R173). -/
def execFetch (dt : Nat) (phase : PortPhase) (s : State) : Outcome State Fault Refusal :=
  .next ((s.advance dt).transaction 0x03 prepareFetch finishFetch phase)

/-- CHANGES (R191). -/
def execChanges (dt : Nat) (phase : PortPhase) (s : State) : Outcome State Fault Refusal :=
  .next ((s.advance dt).transaction 0x04 prepareChanges finishChanges phase)

/-- CONFLICT_TRANSACTION (R192). -/
def execConflictTransaction (dt : Nat) (phase : PortPhase) (s : State) : Outcome State Fault Refusal :=
  .next ((s.advance dt).transaction 0x05 prepareConflict finishConflict phase)

/-- UNKNOWN_TRANSACTION: zero bytes go out and nothing changes (R167). A code of 0x01 to 0x05 is not unknown. -/
def execUnknownTransaction (dt : Nat) (code : Byte) (phase : PortPhase) (s : State) : Outcome State Fault Refusal :=
  if code.toNat = 0 ∨ 5 < code.toNat then .next ((s.advance dt).transaction code prepareNothing finishNothing phase)
  else .next s

end Sys2Proof.Machine
end

