-- ==== Sys2Proof/Machine/LifeCycle.lean ====
section
/-! DEFINITION. The life-cycle requests JOIN, CONFIRM, RENEW and LEAVE (chapters 2, 4, 5). -/

namespace Sys2Proof.Machine

open Host (Outcome)

/-! ### JOIN (2.2, 4.2) -/

/-- A record moved to OFFERED with a full offer timer, its change bit set, and the OFFER answered (R31, R33). -/
def State.offerRecord (r : Request) (slot : Nat) (rd : Record) (s : State) : State :=
  let rd' := { rd with state := .offered, remaining := some s.cfg.offerTime }
  (s.change slot rd').offer r rd'

/-- The address that assignment step 1 finds: the reserved address of a RESERVED record (R26). -/
def Record.reservedAddress (rd : Record) : Option Nat := if rd.reserved then rd.address else none

/-- A JOIN of a RESERVED record's UID (R31). `rd` carries the JOIN's class already. -/
def State.joinReserved (r : Request) (slot : Nat) (rd : Record) (s : State) : State :=
  match assign rd.reservedAddress rd.uid r.preferred s.custody with
  | some (a, c) => (s.setCustody c).offerRecord r slot { rd with address := some a }
  | none => ((s.putRecord slot rd).setNotice .poolExhausted).refuse r .full

/-- A JOIN of a UID that has a record: the class is replaced, and the record's state decides (R11, R30 to R34). -/
def State.joinRecord (r : Request) (slot : Nat) (rd : Record) (s : State) : State :=
  let rd := { rd with cls := r.cls }
  match rd.state with
  | .reserved => s.joinReserved r slot rd
  | .offered =>
    let rd := { rd with remaining := some s.cfg.offerTime }
    (s.putRecord slot rd).offer r rd
  | .bound => s.offerRecord r slot rd
  | .lapsed => s.offerRecord r slot rd
  | .evicting => (s.putRecord slot rd).refuse r .retry
  | .barred => (s.putRecord slot rd).refuse r .barred

/-- A JOIN admitted under OPEN: a new LINE record in the lowest VACANT slot at the address that assignment finds, or
REFUSE FULL with POOL_EXHAUSTED (R35, R79). -/
def State.joinOpen (r : Request) (s : State) : State :=
  match s.vacantSlot, assign none r.uid r.preferred s.custody with
  | some slot, some (a, c) =>
    let rd := newRecord .offered .line r.uid (some a) (some s.cfg.offerTime) r.cls 0
    ((s.setCustody c).create slot rd).offer r rd
  | _, _ => (s.setNotice .poolExhausted).refuse r .full

/-- The UID has an APQ item. -/
def State.queued (u : Uid) (s : State) : Bool := s.ros.apq.any fun i => i.uid == u

/-- The APQ item that a JOIN makes (R76). -/
def State.apqItem (r : Request) (s : State) : ApqItem :=
  ⟨r.uid, r.cls, r.preferredAssignable, s.cfg.approveTime⟩

/-- A JOIN under APPROVE of a UID without a record: refreshed in place, queued at the tail with APPROVAL_ADDED, or
refused BUSY at 8 items (R76 to R78). -/
def State.joinApprove (r : Request) (s : State) : State :=
  if s.queued r.uid then
    (s.setApq (s.ros.apq.map fun i => if i.uid = r.uid then s.apqItem r else i)).wait r 2
  else if s.ros.apq.length < 8 then
    ((s.setApq (s.ros.apq ++ [s.apqItem r])).setNotice .approvalAdded).wait r 2
  else s.refuse r .busy

/-- A JOIN whose UID has no record, by policy (R36, R75, R80). -/
def State.joinUnknown (r : Request) (s : State) : State :=
  match s.cfg.policy with
  | .openAll => s.joinOpen r
  | .approve => s.joinApprove r
  | .closed => (s.dropApq r.uid).refuse r .unknown

/-- A JOIN at check 7 (R28, R30). -/
def State.serveJoin (r : Request) (s : State) : State :=
  if validUid r.uid = false then s.refuse r .badUid
  else
    match s.findUid r.uid with
    | some (slot, rd) => s.joinRecord r slot rd
    | none => s.joinUnknown r

/-! ### Conflicts (5.1 to 5.3) -/

/-- A conflict with the holder of the source address: the holder's count, its change bit, the notice when the count
comes to CONFLICT_LIMIT, the latch, the counter, and the EVICT answer (R91 to R94). -/
def State.conflict (r : Request) (slot : Nat) (holder : Record) (s : State) : State :=
  let count := saturate 15 holder.conflicts
  let s1 := s.change slot { holder with conflicts := count }
  let s2 := if count ≠ holder.conflicts ∧ count = s.cfg.conflictLimit then s1.setNotice .conflictLimit else s1
  let s3 := (s2.setCn (s2.cn.latchConflict r.source slot r.uid r.code)).countConflict
  s3.enqueue (answerEntry r 0xC1 (leadUid r ++ uidBytes r.uid ++ [1]))

/-! ### CONFIRM (2.3) -/

/-- An OFFERED record bound, with its bind count incremented (R39, R45). -/
def State.bindOffered (r : Request) (slot : Nat) (rd : Record) (s : State) : State :=
  let rd := { rd with state := .bound, remaining := s.leaseTimer rd, binds := saturate 255 rd.binds }
  (s.change slot rd).bindingAck r rd

/-- A LAPSED record revived (R40, R44). -/
def State.revive (r : Request) (slot : Nat) (rd : Record) (s : State) : State :=
  let rd := { rd with state := .bound, remaining := s.leaseTimer rd }
  (s.change slot rd).bindingAck r rd

/-- A BOUND record's lease restarted, without a change bit (R40, R43). -/
def State.renewLease (r : Request) (slot : Nat) (rd : Record) (s : State) : State :=
  let rd := { rd with remaining := s.leaseTimer rd }
  (s.putRecord slot rd).bindingAck r rd

/-- A CONFIRM at check 7 (R28, R38 to R41). -/
def State.serveConfirm (r : Request) (s : State) : State :=
  if validUid r.uid = false then s.refuse r .badUid
  else
    match s.findAddr r.source with
    | none => s.refuse r .notBound
    | some (slot, rd) =>
      if rd.uid ≠ r.uid then s.conflict r slot rd
      else
        match rd.state with
        | .offered => s.bindOffered r slot rd
        | .bound => s.renewLease r slot rd
        | .lapsed => s.revive r slot rd
        | .evicting => s.refuse r .retired
        | .reserved => s.refuse r .notBound
        | .barred => s.refuse r .notBound

/-! ### RENEW and adoption (2.4, 2.5) -/

/-- A RESERVED record bound by adoption at an address it holds or has claimed (R47). -/
def State.adoptRecord (r : Request) (slot : Nat) (rd : Record) (s : State) : State :=
  let rd :=
    { rd with
      state := .bound, address := some r.source, remaining := s.leaseTimer rd, binds := saturate 255 rd.binds }
  (s.change slot rd).bindingAck r rd

/-- Adoption of a RESERVED record: at its own reserved address, or without reservation at the claimed source address
(R46, R47, R49). -/
def State.adoptReserved (r : Request) (slot : Nat) (rd : Record) (s : State) : State :=
  if rd.reserved then
    if rd.address = some r.source then s.adoptRecord r slot rd else s.refuse r .notBound
  else
    match claim r.source r.uid s.custody with
    | some c => (s.setCustody c).adoptRecord r slot rd
    | none => s.refuse r .notBound

/-- Adoption of a UID without a record: under OPEN, with a VACANT slot and the source address claimed, a new LINE
record BOUND there (R48, R49). -/
def State.adoptUnknown (r : Request) (s : State) : State :=
  match s.cfg.policy, s.vacantSlot, claim r.source r.uid s.custody with
  | .openAll, some slot, some c =>
    let rd := newRecord .bound .line r.uid (some r.source) (some s.cfg.leaseTime) 0 1
    ((s.setCustody c).create slot rd).bindingAck r rd
  | _, _, _ => s.refuse r .notBound

/-- Adoption (R46 to R49). -/
def State.adopt (r : Request) (s : State) : State :=
  if s.cfg.adoption = false then s.refuse r .notBound
  else
    match s.findUid r.uid with
    | some (slot, rd) =>
      match rd.state with
      | .reserved => s.adoptReserved r slot rd
      | .barred => s.refuse r .barred
      | _ => s.refuse r .notBound
    | none => s.adoptUnknown r

/-- A RENEW at check 7 (R28, R42 to R46). -/
def State.serveRenew (r : Request) (s : State) : State :=
  if validUid r.uid = false then s.refuse r .badUid
  else
    match s.findAddr r.source with
    | none => s.adopt r
    | some (slot, rd) =>
      if rd.uid ≠ r.uid then s.conflict r slot rd
      else
        match rd.state with
        | .bound => s.renewLease r slot rd
        | .lapsed => s.revive r slot rd
        | .offered => s.bindOffered r slot rd
        | .evicting => s.refuse r .retired
        | .reserved => s.adopt r
        | .barred => s.adopt r

/-! ### LEAVE (2.6) -/

/-- A LEAVE at check 7 (R28, R50, R51). -/
def State.serveLeave (r : Request) (s : State) : State :=
  if validUid r.uid = false then s.refuse r .badUid
  else
    match s.findAddr r.source with
    | none => s.plainAck r
    | some (slot, rd) =>
      if rd.uid ≠ r.uid then s.conflict r slot rd
      else
        match rd.state with
        | .offered => (s.releaseRecord slot rd).plainAck r
        | .bound => (s.releaseRecord slot rd).plainAck r
        | .lapsed => (s.releaseRecord slot rd).plainAck r
        | .evicting => s.plainAck r
        | .reserved => s.plainAck r
        | .barred => s.plainAck r

/-! ### The commands -/

/-- JOIN (R30, R152). -/
def execJoin (deadlineFirst : Bool) (s : State) : Outcome State Fault Refusal :=
  .next (s.takeRequest (fun c => c == 0x01) deadlineFirst fun r s => s.serveJoin r)

/-- CONFIRM (R38, R152). -/
def execConfirm (deadlineFirst : Bool) (s : State) : Outcome State Fault Refusal :=
  .next (s.takeRequest (fun c => c == 0x02) deadlineFirst fun r s => s.serveConfirm r)

/-- RENEW (R42, R152). -/
def execRenew (deadlineFirst : Bool) (s : State) : Outcome State Fault Refusal :=
  .next (s.takeRequest (fun c => c == 0x03) deadlineFirst fun r s => s.serveRenew r)

/-- LEAVE (R50, R152). -/
def execLeave (deadlineFirst : Bool) (s : State) : Outcome State Fault Refusal :=
  .next (s.takeRequest (fun c => c == 0x04) deadlineFirst fun r s => s.serveLeave r)

end Sys2Proof.Machine
end

