-- ==== Sys2Proof/Machine/Lookup.lean ====
section
/-! DEFINITION. The lookups RESOLVE, IDENTIFY and INFO (9.5), the station group requests SUBSCRIBE, UNSUBSCRIBE and GROUP
LIST (6.3), and requests with a code the roster does not serve (R155). -/

namespace Sys2Proof.Machine

open Host (Outcome)

/-! ### Lookups -/

/-- RESOLVE at check 7: the UID, its bound flag, its state and its address (R163). -/
def State.serveResolve (r : Request) (s : State) : State :=
  if validUid r.uid = false then s.refuse r .badUid
  else
    match s.findUid r.uid with
    | none => s.ack r (uidBytes r.uid ++ [0, 0, 0])
    | some (_, rd) =>
      let bound := rd.state == .bound || rd.state == .lapsed
      s.ack r (uidBytes r.uid ++ [flagByte bound, byte (stateNumber rd.state),
        if bound then byte (rd.address.getD 0) else 0])

/-- IDENTIFY at check 7: the holder of the address, or found clear (R164). -/
def State.serveIdentify (r : Request) (s : State) : State :=
  let a := natAt r.payload 0
  match (if assignable a then s.findAddr a else none) with
  | none => s.ack r [0]
  | some (_, rd) =>
    s.ack r ([1, byte (stateNumber rd.state), byte a] ++ uidBytes rd.uid ++ [rd.cls] ++ groupListBytes rd.groups
      ++ labelBytes rd.label)

/-- INFO at check 7: epoch, policy, LEASE_TIME, BOUND count, free list length, JOIN_SLOTS (R165). -/
def State.serveInfo (r : Request) (s : State) : State :=
  s.ack r (s.epochBytes ++ [byte (policyNumber s.cfg.policy)] ++ be16 s.cfg.leaseTime
    ++ [byte s.boundCount, byte s.ros.free.length, byte s.cfg.joinSlots])

/-! ### Group requests -/

/-- The group ACK: the record's groups as they stand after the request (R115, R116). -/
def State.groupAck (r : Request) (slot : Nat) (s : State) : State :=
  match s.recordAt slot with
  | some rd => s.ack r (groupListBytes rd.groups)
  | none => s

/-- SUBSCRIBE at check 7, for the record that holds the source (R115). -/
def State.serveSubscribe (r : Request) (s : State) : State :=
  let g := natAt r.payload 0
  match s.findAddr r.source with
  | none => s.refuse r .notBound
  | some (slot, rd) =>
    if 15 < g then s.refuse r .noGroup
    else if (s.group g).isOpen = false then s.refuse r .groupClosed
    else if slot ∈ (s.group g).members then s.groupAck r slot
    else if 4 ≤ rd.groups.length then s.refuse r .groupLimit
    else if 24 ≤ (s.group g).members.length then s.refuse r .groupFull
    else (s.joinGroup slot g).groupAck r slot

/-- UNSUBSCRIBE at check 7, for the record that holds the source (R116). -/
def State.serveUnsubscribe (r : Request) (s : State) : State :=
  let g := natAt r.payload 0
  match s.findAddr r.source with
  | none => s.refuse r .notBound
  | some (slot, _) =>
    if 15 < g then s.refuse r .noGroup
    else if (s.group g).isOpen = false then s.refuse r .groupClosed
    else if slot ∉ (s.group g).members then s.groupAck r slot
    else (s.leaveGroup slot g).groupAck r slot

/-- A slot's record is BOUND or LAPSED (R117). -/
def State.listed (slot : Nat) (s : State) : Bool :=
  slotHas (fun r => r.state == .bound || r.state == .lapsed) (s.recordAt slot)

/-- The address that a slot's record holds, 0 when it holds none. -/
def State.addressOf (slot : Nat) (s : State) : Nat :=
  match s.recordAt slot with
  | some r => r.address.getD 0
  | none => 0

/-- GROUP LIST at check 7: open flag, addresses of the BOUND and LAPSED members in order, count of the others (R117). -/
def State.serveGroupList (r : Request) (s : State) : State :=
  let g := natAt r.payload 0
  if 15 < g then s.refuse r .noGroup
  else
    let ms := (s.group g).members
    let listed := ms.filter fun m => s.listed m
    s.ack r ([flagByte (s.group g).isOpen, byte listed.length] ++ listed.map (fun m => byte (s.addressOf m))
      ++ [byte (ms.length - listed.length)])

/-! ### The commands -/

/-- RESOLVE (R163, R152). -/
def execResolve (deadlineFirst : Bool) (s : State) : Outcome State Fault Refusal :=
  .next (s.takeRequest (fun c => c == 0x10) deadlineFirst fun r s => s.serveResolve r)

/-- IDENTIFY (R164, R152). -/
def execIdentify (deadlineFirst : Bool) (s : State) : Outcome State Fault Refusal :=
  .next (s.takeRequest (fun c => c == 0x11) deadlineFirst fun r s => s.serveIdentify r)

/-- INFO (R165, R152). -/
def execInfo (deadlineFirst : Bool) (s : State) : Outcome State Fault Refusal :=
  .next (s.takeRequest (fun c => c == 0x13) deadlineFirst fun r s => s.serveInfo r)

/-- GROUP_LIST (R117, R152). -/
def execGroupList (deadlineFirst : Bool) (s : State) : Outcome State Fault Refusal :=
  .next (s.takeRequest (fun c => c == 0x12) deadlineFirst fun r s => s.serveGroupList r)

/-- SUBSCRIBE (R115, R152). -/
def execSubscribe (deadlineFirst : Bool) (s : State) : Outcome State Fault Refusal :=
  .next (s.takeRequest (fun c => c == 0x20) deadlineFirst fun r s => s.serveSubscribe r)

/-- UNSUBSCRIBE (R116, R152). -/
def execUnsubscribe (deadlineFirst : Bool) (s : State) : Outcome State Fault Refusal :=
  .next (s.takeRequest (fun c => c == 0x21) deadlineFirst fun r s => s.serveUnsubscribe r)

/-- UNSUPPORTED_REQUEST: a request with any other code (R155, R152). Check 3 decides it, so no owning rule is
reached. -/
def execUnsupportedRequest (deadlineFirst : Bool) (s : State) : Outcome State Fault Refusal :=
  .next (s.takeRequest (fun c => (requestLength c).isNone) deadlineFirst fun r s => s.refuse r .unsupported)

end Sys2Proof.Machine
end

