-- ==== Sys2Proof/Machine/Reading.lean ====
section
/-! DEFINITION. The commands that read: READ ENTRY, FIND UID, FIND ADDRESS, LIST (10.3), READ QUEUE (R86), GROUP READ
(R114), READ CONFIG, READ POOL (10.6), READ COUNTERS (R194). They change nothing. -/

namespace Sys2Proof.Machine

open Host (Outcome)

/-- READ ENTRY's result (R176). -/
def State.readEntry (args : List Byte) (s : State) : Result :=
  let slot := natAt args 0
  if 63 < slot then result .badArgument
  else
    match s.recordAt slot with
    | none => result .notFound
    | some r => done (recordImage slot r)

/-- FIND UID's result (R177). -/
def State.findUidResult (args : List Byte) (s : State) : Result :=
  if validUid (uidAt args 0) = false then result .badArgument
  else
    match s.findUid (uidAt args 0) with
    | none => result .notFound
    | some (slot, r) => done (recordImage slot r)

/-- FIND ADDRESS's result: held with the image, free with its position, or hold-down with position, UID and remaining
time (R177, R207). By R21 an address is in one of the three places; in a state where it is in none, NOT_FOUND
[log 24]. -/
def State.findAddressResult (args : List Byte) (s : State) : Result :=
  let a := natAt args 0
  if assignable a = false then result .badArgument
  else
    match s.findAddr a with
    | some (slot, r) => done (0 :: recordImage slot r)
    | none =>
      match s.ros.free.findIdx? (fun x => x == a) with
      | some i => done [1, byte i]
      | none =>
        match s.ros.hold.findIdx? (fun x => x.address == a) with
        | some i =>
          match s.ros.hold[i]? with
          | some item => done ([2, byte i] ++ uidBytes item.uid ++ be16 item.remaining)
          | none => result .notFound
        | none => result .notFound

/-- The occupied records from a slot upward whose state the filter names, with their slots (R178). -/
def matching (filter : Byte) (slot : Nat) (t : List (Option Record)) : List (Nat × Record) :=
  match t with
  | [] => []
  | o :: rest =>
    match o with
    | some r =>
      if filter.getLsbD (stateNumber r.state) then (slot, r) :: matching filter (slot + 1) rest
      else matching filter (slot + 1) rest
    | none => matching filter (slot + 1) rest

/-- The continuation slot of LIST: the slot after the last one taken when the maximum was reached below slot 63, else
64 (R178). -/
def continuation (taken : List (Nat × Record)) (limit : Nat) : Nat :=
  match taken.getLast? with
  | some (slot, _) => if taken.length = limit ∧ slot < 63 then slot + 1 else 64
  | none => 64

/-- LIST's result (R178, R207). -/
def State.listResult (args : List Byte) (s : State) : Result :=
  let filter := byteAt args 0
  let start := natAt args 1
  let limit := natAt args 2
  if filter = 0 ∨ filter.getLsbD 0 = true ∨ filter.getLsbD 7 = true ∨ 63 < start ∨ limit < 1 ∨ 6 < limit then
    result .badArgument
  else
    let taken := (matching filter start (s.ros.table.drop start)).take limit
    done ([byte taken.length] ++ taken.flatMap (fun x => listSummary x.1 x.2) ++ [byte (continuation taken limit)])

/-- READ QUEUE's result (R86, R207). -/
def State.readQueueResult (args : List Byte) (s : State) : Result :=
  let start := natAt args 0
  if 7 < start then result .badArgument
  else
    let items := (s.ros.apq.drop start).take 6
    let next := if items = [] ∨ s.ros.apq.length ≤ start + items.length then 8 else start + items.length
    done ([byte s.ros.apq.length] ++ items.flatMap queueItemBytes ++ [byte next])

/-- The member word of a slot; an empty word for a VACANT slot, which is never a member (R108, R207). -/
def State.memberWordOf (slot : Nat) (s : State) : Nat :=
  match s.recordAt slot with
  | some r => memberWord slot r
  | none => 1024 * slot

/-- GROUP READ's result (R114, R207). -/
def State.groupReadResult (args : List Byte) (s : State) : Result :=
  let g := natAt args 0
  if 15 < g then result .badArgument
  else
    let ms := (s.group g).members
    done ([flagByte (s.group g).isOpen, byte ms.length] ++ ms.flatMap fun m => be16 (s.memberWordOf m))

/-- READ CONFIG's result (R185). -/
def State.readConfigResult (s : State) : Result := done (s.cfg.values.flatMap be16)

/-- READ POOL's result (R186, R207). -/
def State.readPoolResult (args : List Byte) (s : State) : Result :=
  if natAt args 0 = 0 then
    done [byte s.ros.free.length, byte (s.ros.free.headD 0), byte s.ros.hold.length]
  else if natAt args 0 = 1 then done ((s.ros.hold.take 8).flatMap poolItemBytes)
  else result .badArgument

/-- READ COUNTERS's result (R194). -/
def State.readCountersResult (s : State) : Result := done (s.cn.counters.values.flatMap be16)

/-- READ_ENTRY (R176). -/
def execReadEntry (s : State) : Outcome State Fault Refusal :=
  .next (s.serveCommand 0x10 fun args s => (s.readEntry args, s))

/-- FIND_UID (R177). -/
def execFindUid (s : State) : Outcome State Fault Refusal :=
  .next (s.serveCommand 0x11 fun args s => (s.findUidResult args, s))

/-- FIND_ADDRESS (R177). -/
def execFindAddress (s : State) : Outcome State Fault Refusal :=
  .next (s.serveCommand 0x12 fun args s => (s.findAddressResult args, s))

/-- LIST (R178). -/
def execList (s : State) : Outcome State Fault Refusal :=
  .next (s.serveCommand 0x13 fun args s => (s.listResult args, s))

/-- READ_QUEUE (R86). -/
def execReadQueue (s : State) : Outcome State Fault Refusal :=
  .next (s.serveCommand 0x32 fun args s => (s.readQueueResult args, s))

/-- GROUP_READ (R114). -/
def execGroupRead (s : State) : Outcome State Fault Refusal :=
  .next (s.serveCommand 0x43 fun args s => (s.groupReadResult args, s))

/-- READ_CONFIG (R185). -/
def execReadConfig (s : State) : Outcome State Fault Refusal :=
  .next (s.serveCommand 0x51 fun _ s => (s.readConfigResult, s))

/-- READ_POOL (R186). -/
def execReadPool (s : State) : Outcome State Fault Refusal :=
  .next (s.serveCommand 0x52 fun args s => (s.readPoolResult args, s))

/-- READ_COUNTERS (R194). -/
def execReadCounters (s : State) : Outcome State Fault Refusal :=
  .next (s.serveCommand 0x53 fun _ s => (s.readCountersResult, s))

end Sys2Proof.Machine
end

