-- ==== Sys2Proof/Machine/Receive.lean ====
section
/-! DEFINITION. The line receiver (chapter 7): start edges, characters, frames, RXQ admission, silence. -/

namespace Sys2Proof.Machine

open Host (Outcome)

/-! ### The request queue (R132, R133) -/

/-- The deadline of a request: its end time plus tRSP, or for a JOIN that ends while a join window is open the window's
closing instant plus tRSP (R132, R149). At the closing instant itself the two are one. Whether a window is open is asked
as the item is made, at the hand-on, half a bit time before the end time: a HOLD in between leaves the JOIN the window's
deadline [log 30]. -/
def State.requestDeadline (code : Byte) (endTime : Nat) (s : State) : Nat :=
  match s.ltx.state with
  | .window closing =>
    if code = 0x01 ∧ endTime ≤ closing then closing + tRsp s.cfg.lineRate else endTime + tRsp s.cfg.lineRate
  | _ => endTime + tRsp s.cfg.lineRate

/-- RXQ admission: appended and counted while RXQ holds fewer than 4 items, else an overrun with its notice (R133). A
character that is taken as part of an attempt's own frame (`quiet`) increments no receive counter here either (R130)
[log 15]. -/
def State.admitToRxq (r : Request) (quiet : Bool) (s : State) : State :=
  if s.rxq.length < 4 then
    let s1 := s.setRxq (s.rxq ++ [r])
    if quiet then s1 else s1.countAccepted
  else (if quiet then s else s.countOverrun).setNotice .requestOverrun

/-! ### The frame assembler (R126 to R131) -/

/-- The frame assembler in a new state. -/
def State.setFrm (f : FrameAsm) (s : State) : State := s.setLrx { s.lrx with frm := f }

/-- A count made unless it belongs to an own frame (R130). -/
def State.countMalformedUnless (own : Bool) (s : State) : State := if own then s else s.countMalformed

/-- What LRX receives counts as part of an attempt's own frame: LTX is sending, or a rate change aborted an attempt and
the line has not yet fallen silent after it (R130, R150). -/
def State.ownSpan (s : State) : Bool := s.attemptActive || s.lrx.quiet.isSome

/-- A frame begun by its marked byte 0 (R126). -/
def beginFrame (b : Byte) (own : Bool) : FrameAsm := .assembling ⟨[b], none, crcByte 0xFFFF b, own⟩

/-- The request that a complete frame carries (R132). -/
def State.requestOf (bytes : List Byte) (endTime : Nat) (s : State) : Request where
  dest := natAt bytes 0 % 64
  source := natAt bytes 1
  code := byteAt bytes 2
  tag := byteAt bytes 3
  payload := (bytes.drop 5).take (natAt bytes 4)
  endTime := endTime
  deadline := s.requestDeadline (byteAt bytes 2) endTime

/-- The checks of a complete frame in their order, then the filter: a request to destination 0 goes to RXQ admission
and anything else is passed over (R129, R131). An own frame is discarded after the checks and counts nothing (R130).
`quiet`: the last character increments no receive counter, whatever the outcome (R130) [log 15]. -/
def State.completeFrame (a : Assembly) (quiet : Bool) (endTime : Nat) (s : State) : State :=
  let n := a.bytes.length
  if be16 a.crc.toNat ≠ a.bytes.drop (n - 2) then (if quiet then s else s.countCrcError)
  else if natAt a.bytes 0 / 64 = 3 then s.countMalformedUnless quiet
  else if 63 < natAt a.bytes 1 then s.countMalformedUnless quiet
  else if a.own || decide (natAt a.bytes 0 ≠ 0) then s
  else s.admitToRxq (s.requestOf a.bytes endTime) quiet

/-- A marked character begins a new frame; a frame it cuts short counts as truncated unless it is an own frame
(R126). -/
def State.assembleMarked (b : Byte) (s : State) : State :=
  match s.lrx.frm with
  | .assembling a => (s.countMalformedUnless a.own).setFrm (beginFrame b s.ownSpan)
  | _ => s.setFrm (beginFrame b s.ownSpan)

/-- An unmarked character in a frame: byte 4 declares the length, or is malformed above 48 (R127); bytes up to 4 + L
enter the CRC; byte 6 + L completes the frame (R126, R129). -/
def State.assembleByte (a : Assembly) (b : Byte) (endTime : Nat) (s : State) : State :=
  let n := a.bytes.length
  let quiet := a.own || s.ownSpan
  if n = 4 ∧ 48 < b.toNat then (s.countMalformedUnless quiet).setFrm (.discarding a.own)
  else
    let declared := if n = 4 then some (7 + b.toNat) else a.declared
    let covered := match declared with
      | some l => decide (n + 2 < l)
      | none => true
    let a' : Assembly := ⟨a.bytes ++ [b], declared, if covered then crcByte a.crc b else a.crc, a.own⟩
    if declared = some (n + 1) then (s.setFrm .outside).completeFrame a' quiet endTime
    else s.setFrm (.assembling a')

/-- An unmarked character: the next byte in ASSEMBLING, ignored otherwise (R126). -/
def State.assembleUnmarked (b : Byte) (endTime : Nat) (s : State) : State :=
  match s.lrx.frm with
  | .assembling a => s.assembleByte a b endTime
  | _ => s

/-- A silence past tGAP truncates the frame in assembly, or ends DISCARDING without count (R127, R128). -/
def State.truncateFrame (s : State) : State :=
  match s.lrx.frm with
  | .assembling a => (s.countMalformedUnless a.own).setFrm .outside
  | .discarding _ => s.setFrm .outside
  | .outside => s

/-! ### The echo check (R142) -/

/-- A character (`some` of its byte and mark bit) or a framing error (`none`) comes to LTX as the echo of the character
it is sending: it passes when it comes in time and equals the one sent (R142). -/
def State.hearEcho (heard : Option (Byte × Bool)) (s : State) : State :=
  match s.ltx.state with
  | .sending a =>
    match a.echo with
    | some _ => s
    | none =>
      s.setLtx { s.ltx with
        state := .sending { a with
          echo := some (decide (heard = some (a.drive.byte, a.drive.mark)) && decide (s.now ≤ a.drive.finish)) } }
  | _ => s

/-! ### Characters (R122 to R124) -/

/-- The character being received: its start edge and samples, none in WAITING. -/
def CharAsm.wave (c : CharAsm) : Option (Nat × CharWave) :=
  match c with
  | .waiting => none
  | .start e w => some (e, w)
  | .data e w => some (e, w)

/-- The own-frame mark of the frame that the assembler is in (R130). -/
def FrameAsm.own (f : FrameAsm) : Bool :=
  match f with
  | .outside => false
  | .assembling a => a.own
  | .discarding own => own

/-- The character assembler back in WAITING with all nine bits received, the silence measure as given (R123, R124). -/
def State.endChar (w : CharWave) (sil : Silence) (s : State) : State :=
  s.setLrx { s.lrx with chr := .waiting, bits := waveReceived w 9, sil := sil }

/-- A character that began at `edge` is complete: at sample 9 of its stop bit it goes to the frame assembler and to LTX
together, and the line falls silent at its end, 11 tBIT after the edge (R123, R125). -/
def State.handCharacter (w : CharWave) (edge : Nat) (s : State) : State :=
  let s1 := s.advanceTo (edge + handOn s.cfg.lineRate)
  let finish := edge + tChar s.cfg.lineRate
  let s2 := if waveMark w then s1.assembleMarked (waveByte w) else s1.assembleUnmarked (waveByte w) finish
  (s2.hearEcho (some (waveByte w, waveMark w))).endChar w (.since finish)

/-- A framing error of a character that began at `edge` (R124). A 0 that follows a sample 9 of 1 would be a start edge
(R122). -/
def State.takeFramingError (w : CharWave) (edge : Nat) (s : State) : State :=
  let s1 := s.advanceTo (edge + handOn s.cfg.lineRate)
  let s2 := (if s1.ownSpan || s1.lrx.frm.own then s1 else s1.countFraming).setFrm .outside
  (s2.hearEcho none).endChar w (.awaitOne (w.s9.getLsbD 10))

/-- The start edge of the character being received, when the part is out of reset and the character has the samples `w`:
those that its event names [log 3, log 29]. -/
def State.receiving (w : CharWave) (s : State) : Option Nat :=
  match s.inReset, s.lrx.chr.wave with
  | false, some (edge, w') => if w' = w then some edge else none
  | _, _ => none

/-- The next unmarked character is the last of the frame in assembly (R129). -/
def State.lastOfFrame (s : State) : Bool :=
  match s.lrx.frm with
  | .assembling a => a.declared == some (a.bytes.length + 1)
  | _ => false

/-- The next character is byte 4 of the frame in assembly (R127). -/
def State.lengthNext (s : State) : Bool :=
  match s.lrx.frm with
  | .assembling a => a.bytes.length == 4
  | _ => false

/-- FRAME_RECEIVED: the character that completes the frame in assembly (R129 to R133). -/
def execFrameReceived (w : CharWave) (s : State) : Outcome State Fault Refusal :=
  match s.receiving w with
  | some edge =>
    if waveStartValid w && !waveMark w && waveStop w && s.lastOfFrame then .next (s.handCharacter w edge) else .next s
  | none => .next s

/-- MARKED_CHARACTER (R126). -/
def execMarkedCharacter (w : CharWave) (s : State) : Outcome State Fault Refusal :=
  match s.receiving w with
  | some edge =>
    if waveStartValid w && waveMark w && waveStop w then .next (s.handCharacter w edge) else .next s
  | none => .next s

/-- LENGTH_MALFORMED: byte 4 above 48 (R127). -/
def execLengthMalformed (w : CharWave) (s : State) : Outcome State Fault Refusal :=
  match s.receiving w with
  | some edge =>
    if waveStartValid w && !waveMark w && waveStop w && s.lengthNext && decide (48 < (waveByte w).toNat) then
      .next (s.handCharacter w edge)
    else .next s
  | none => .next s

/-- UNMARKED_CHARACTER (R126). -/
def execUnmarkedCharacter (w : CharWave) (s : State) : Outcome State Fault Refusal :=
  match s.receiving w with
  | some edge =>
    if waveStartValid w && !waveMark w && waveStop w then .next (s.handCharacter w edge) else .next s
  | none => .next s

/-- FRAMING_ERROR: a stop bit decided as 0, or a break (R124). -/
def execFramingError (w : CharWave) (s : State) : Outcome State Fault Refusal :=
  match s.receiving w with
  | some edge => if waveStartValid w && !waveStop w then .next (s.takeFramingError w edge) else .next s
  | none => .next s

/-! ### Edges and silence (R122, R124, R125, R128) -/

/-- FRAME_GAP_TRUNCATION: the silence inside a frame, or in DISCARDING, passes tGAP; line time runs to the first CLKIN
period past it (R127, R128) [log 2]. -/
def execFrameGapTruncation (s : State) : Outcome State Fault Refusal :=
  match s.inReset, s.lrx.chr, s.lrx.sil with
  | false, .waiting, .since t =>
    if s.lrx.frm = .outside then .next s else .next (s.advanceTo (t + tGap s.cfg.lineRate + 1)).truncateFrame
  | _, _, _ => .next s

/-- The silence of a line silent since `t` has ended BACKOFF (R139, R143). -/
def LtxState.settleBackoff (rate t now : Nat) (l : LtxState) : LtxState :=
  match l with
  | .backoff k aborted => if backoffEnd rate k aborted t ≤ now then .ready else .backoff k aborted
  | l => l

/-- A line silent since `t`, after the end of the aborted character, has ended its own-frame span (R150) [log 14]. -/
def settleQuiet (t now : Nat) (quiet : Option Nat) : Option Nat :=
  match quiet with
  | some e => if max t e ≤ now then none else some e
  | none => none

/-- At a start edge the silence that ends there has had its effects: a gap past tGAP has truncated the frame (R128), a
silence of tBACK(k) has ended BACKOFF (R139), and a line silent after an aborted character has ended its own-frame
span (R150) [log 2]. -/
def State.settleSilence (s : State) : State :=
  match s.lrx.sil with
  | .since t =>
    let s1 := if tGap s.cfg.lineRate < s.silence then s.truncateFrame else s
    (s1.setLrx { s1.lrx with quiet := settleQuiet t s.now s.lrx.quiet }).setLtx
      { s.ltx with state := s.ltx.state.settleBackoff s.cfg.lineRate t s.now }
  | _ => s

/-- START_EDGE: the assembler moves from WAITING to START and the silence measure is held at 0 (R122, R125). A start
edge needs a sample reading 1 before it, so none comes while RXD is known to have read 0 since (R122, R124)
[log 14]. -/
def execStartEdge (e : StartEdge) (s : State) : Outcome State Fault Refusal :=
  if s.inReset ∨ s.lrx.chr ≠ .waiting ∨ s.lrx.sil = .awaitOne false then .next s
  else
    let s1 := (s.advance e.dt).settleSilence
    .next (s1.setLrx { s1.lrx with chr := .start s1.now e.wave, bits := [], sil := .held })

/-- The silence measure after a false start of a character that began at `edge`: it runs from the next sample, where that
reads 1, and else waits for one, which BREAK_END brings; a 0 after a sample 9 of 1 would be a start edge (R122, R125)
[log 27]. -/
def falseStartSilence (rate edge : Nat) (w : CharWave) (high : Bool) : Silence :=
  if high then .since (edge + startDecision rate + samplePeriods rate) else .awaitOne (w.s9.getLsbD 0)

/-- FALSE_START: at sample 9 of position 0 the assembler returns to WAITING without a count (R122). -/
def execFalseStart (w : CharWave) (high : Bool) (s : State) : Outcome State Fault Refusal :=
  match s.receiving w with
  | some edge =>
    if s.lrx.chr = .start edge w ∧ waveStartValid w = false then
      let s1 := s.advanceTo (edge + startDecision s.cfg.lineRate)
      .next (s1.setLrx { s1.lrx with chr := .waiting, sil := falseStartSilence s.cfg.lineRate edge w high })
    else .next s
  | none => .next s

/-- BREAK_END: the first sample reading 1 after a framing error, a break, pin reset or a rate change, or after a false
start whose next sample read 0, starts the silence measure (R124, R125). -/
def execBreakEnd (dt : Nat) (s : State) : Outcome State Fault Refusal :=
  match s.inReset, s.lrx.sil with
  | false, .awaitOne _ =>
    let s1 := s.advance dt
    .next (s1.setLrx { s1.lrx with sil := .since s1.now })
  | _, _ => .next s

end Sys2Proof.Machine
end

