-- ==== Sys2Proof/Machine/Records.lean ====
section
/-! DEFINITION. The commands that make, change and remove records: PROVISION, EDIT (chapter 10), EVICT, DELETE, BAR
(chapter 5), APPROVE, DENY (chapter 4). -/

namespace Sys2Proof.Machine

open Host (Outcome)

/-! ### PROVISION (R179, R180) -/

/-- The arguments of PROVISION in their order (R179). -/
structure ProvisionArgs where
  uid : Uid
  address : Nat
  pinned : Byte
  label : List Byte
  groups : List Nat
deriving DecidableEq, Repr

/-- The arguments read from the command slot: UID, reserved address, pinned flag, label length, label, group count,
groups (R179). -/
def provisionArgs (args : List Byte) : ProvisionArgs where
  uid := uidAt args 0
  address := natAt args 6
  pinned := byteAt args 7
  label := (args.drop 9).take (natAt args 8)
  groups := ((args.drop (10 + natAt args 8)).take (natAt args (9 + natAt args 8))).map BitVec.toNat

/-- The checks of PROVISION, in their order; none when all pass (R179). -/
def State.provisionCheck (p : ProvisionArgs) (s : State) : Option ResultCode :=
  if validUid p.uid = false ∨ 60 < p.address ∨ 1 < p.pinned.toNat ∨ 12 < p.label.length
      ∨ p.groups.any (fun g => decide (15 < g)) = true then some .badArgument
  else if (s.findUid p.uid).isSome then some .duplicate
  else if s.vacantSlot = none then some .full
  else if p.address ≠ 0 ∧ claim p.address p.uid s.custody = none then some .inUse
  else if p.groups.any (fun g => decide (24 ≤ (s.group g).members.length)) then some .full
  else if 4 < p.groups.length ∨ ¬ p.groups.Nodup then some .badArgument
  else none

/-- The record that PROVISION makes, before it joins its groups (R180). -/
def provisionRecord (p : ProvisionArgs) : Record :=
  { newRecord .reserved .host p.uid (if p.address = 0 then none else some p.address) none 0 0 with
    reserved := decide (p.address ≠ 0)
    pinned := decide (p.pinned = 1)
    label := p.label }

/-- PROVISION carried out in slot `slot` (R180). -/
def State.provisionAt (slot : Nat) (p : ProvisionArgs) (s : State) : State :=
  let s1 := if p.address = 0 then s else
    match claim p.address p.uid s.custody with
    | some c => s.setCustody c
    | none => s
  p.groups.foldl (fun s g => s.joinGroup slot g) (s1.create slot (provisionRecord p))

/-- PROVISION served by TC (R179, R180). -/
def State.provision (args : List Byte) (s : State) : Result × State :=
  let p := provisionArgs args
  match s.provisionCheck p, s.vacantSlot with
  | none, some slot => (done [byte slot], s.provisionAt slot p)
  | some c, _ => (result c, s)
  | none, none => (result .full, s)

/-! ### EDIT (R181, R182) -/

/-- The arguments of EDIT: the slot, the selection byte, and the values the selection names (R181, R206). -/
structure EditArgs where
  slot : Nat
  selection : Byte
  pin : Option Byte
  reserve : Option Byte
  label : Option (List Byte)
deriving DecidableEq, Repr

/-- The arguments read from the command slot: pin, reserved and label values follow the selection in that order, only
the selected ones being present (R181). -/
def editArgs (args : List Byte) : EditArgs :=
  let sel := byteAt args 1
  let nPin := if sel.getLsbD 1 then 1 else 0
  let nRes := if sel.getLsbD 2 then 1 else 0
  let at3 := 2 + nPin + nRes
  { slot := natAt args 0
    selection := sel
    pin := if sel.getLsbD 1 then some (byteAt args 2) else none
    reserve := if sel.getLsbD 2 then some (byteAt args (2 + nPin)) else none
    label := if sel.getLsbD 0 then some ((args.drop (at3 + 1)).take (natAt args at3)) else none }

/-- Check 1 of EDIT fails (R181): slot, selection, a flag value or the label length out of range. -/
def editBad (e : EditArgs) : Bool :=
  decide (63 < e.slot) || e.selection == 0 || decide (7 < e.selection.toNat)
    || decide (1 < (e.pin.getD 0).toNat) || decide (1 < (e.reserve.getD 0).toNat) || decide (12 < (e.label.getD []).length)

/-- Checks 3 and 4 of EDIT fail for a record (R181). -/
def editStateBad (e : EditArgs) (r : Record) : Bool :=
  (e.pin.isSome && (r.state == .evicting || r.state == .barred))
    || (e.reserve == some 1 && (r.origin == .line || r.address == none))

/-- EDIT of the reserved flag: clearing it on a RESERVED record gives the address up (R182). -/
def editReserved (v : Option Byte) (r : Record) : Record :=
  match v with
  | none => r
  | some v =>
    if v = 1 then { r with reserved := true }
    else if r.reserved = true ∧ r.state = .reserved then { r with reserved := false, address := none }
    else { r with reserved := false }

/-- EDIT of the pin: R68 for setting it, R69 for clearing it. -/
def State.editPin (v : Option Byte) (r : Record) (s : State) : Record :=
  match v with
  | none => r
  | some v =>
    if v = 1 then
      match r.state with
      | .bound => { r with pinned := true, remaining := none }
      | .lapsed => { r with pinned := true, remaining := none, state := .bound }
      | _ => { r with pinned := true }
    else if r.pinned = true ∧ r.state = .bound then { r with pinned := false, remaining := some s.cfg.leaseTime }
    else { r with pinned := false }

/-- EDIT of the label (R182). -/
def editLabel (v : Option (List Byte)) (r : Record) : Record :=
  match v with
  | none => r
  | some l => { r with label := l }

/-- EDIT carried out on a slot's record: the change bit is set once, and an address that leaves the record is given up
(R182). -/
def State.editRecord (e : EditArgs) (r : Record) (s : State) : State :=
  let r1 := editReserved e.reserve r
  let s1 := s.change e.slot (editLabel e.label (s.editPin e.pin r1))
  if r1.address = none then s1.giveUpOf r else s1

/-- EDIT served by TC (R181, R182). -/
def State.edit (args : List Byte) (s : State) : Result × State :=
  let e := editArgs args
  if editBad e then (result .badArgument, s)
  else
    match s.recordAt e.slot with
    | none => (result .notFound, s)
    | some r => if editStateBad e r then (result .badState, s) else (done [], s.editRecord e r)

/-! ### EVICT, DELETE, BAR (5.4, 5.8, 5.9) -/

/-- EVICT served by TC: the record moves to EVICTING and the unsolicited EVICT frame is queued (R96, R97). -/
def State.evict (args : List Byte) (s : State) : Result × State :=
  let slot := natAt args 0
  if 63 < slot then (result .badArgument, s)
  else
    match s.recordAt slot with
    | none => (result .notFound, s)
    | some r =>
      if r.state = .reserved ∨ r.state = .evicting ∨ r.state = .barred then (result .badState, s)
      else if 6 ≤ s.txq.length then (result .full, s)
      else
        (done [], (s.change slot { r with state := .evicting, remaining := none }).enqueue
          (unsolicitedEntry (.evict slot) (r.address.getD 0) 0xC1 (uidBytes r.uid ++ [2])))

/-- DELETE served by TC (R103). -/
def State.deleteRecord (args : List Byte) (s : State) : Result × State :=
  let slot := natAt args 0
  if 63 < slot then (result .badArgument, s)
  else
    match s.recordAt slot with
    | none => (result .notFound, s)
    | some r => if r.state.active then (result .badState, s) else (done [], (s.remove slot).giveUpOf r)

/-- BAR of a RESERVED record (R105). -/
def State.barReserved (slot : Nat) (r : Record) (s : State) : State :=
  ((s.leaveAll slot).change slot
    { r with state := .barred, address := none, reserved := false, pinned := false, groups := [] }).giveUpOf r

/-- BAR served by TC (R104, R105). -/
def State.bar (args : List Byte) (s : State) : Result × State :=
  let u := uidAt args 0
  if validUid u = false then (result .badArgument, s)
  else
    match s.findUid u with
    | some (slot, r) =>
      if r.state = .reserved then (done [byte slot], s.barReserved slot r) else (result .badState, s)
    | none =>
      match s.vacantSlot with
      | some slot => (done [byte slot], s.create slot (newRecord .barred .host u none none 0 0))
      | none => (result .full, s)

/-! ### APPROVE and DENY (4.4) -/

/-- The APQ item of a UID. -/
def State.findItem (u : Uid) (s : State) : Option ApqItem := s.ros.apq.find? fun i => i.uid == u

/-- APPROVE served by TC (R82, R83). -/
def State.approve (args : List Byte) (s : State) : Result × State :=
  let u := uidAt args 0
  if validUid u = false then (result .badArgument, s)
  else
    match s.findItem u with
    | none => (result .notFound, s)
    | some item =>
      if 6 ≤ s.txq.length then (result .full, s)
      else
        match s.vacantSlot, assign none u (item.preferred.getD 0) s.custody with
        | some slot, some (a, c) =>
          let rd := newRecord .offered .line u (some a) (some s.cfg.offerTime) item.cls 0
          (done [byte slot], ((s.setCustody c).create slot rd).enqueue
            (unsolicitedEntry .offer 61 0x83 (s.offerPayload rd)))
        | _, _ => (result .full, s.setNotice .poolExhausted)

/-- DENY served by TC, without bar (R84) and with it (R85). -/
def State.deny (args : List Byte) (s : State) : Result × State :=
  let u := uidAt args 0
  let flag := natAt args 6
  if validUid u = false ∨ 1 < flag then (result .badArgument, s)
  else
    match s.findItem u with
    | none => (result .notFound, s)
    | some item =>
      if flag = 0 then (done [], s.dropApq u)
      else
        match s.vacantSlot with
        | some slot => (done [byte slot], s.create slot (newRecord .barred .host u none none item.cls 0))
        | none => (result .full, s)

/-! ### The commands -/

/-- PROVISION (R179, R180). -/
def execProvision (s : State) : Outcome State Fault Refusal :=
  .next (s.serveCommand 0x20 fun args s => s.provision args)

/-- EDIT (R181, R182). -/
def execEdit (s : State) : Outcome State Fault Refusal := .next (s.serveCommand 0x21 fun args s => s.edit args)

/-- EVICT (R96). -/
def execEvict (s : State) : Outcome State Fault Refusal := .next (s.serveCommand 0x22 fun args s => s.evict args)

/-- DELETE (R103). -/
def execDelete (s : State) : Outcome State Fault Refusal :=
  .next (s.serveCommand 0x23 fun args s => s.deleteRecord args)

/-- BAR (R104, R105). -/
def execBar (s : State) : Outcome State Fault Refusal := .next (s.serveCommand 0x24 fun args s => s.bar args)

/-- APPROVE (R82). -/
def execApprove (s : State) : Outcome State Fault Refusal := .next (s.serveCommand 0x30 fun args s => s.approve args)

/-- DENY (R84, R85). -/
def execDeny (s : State) : Outcome State Fault Refusal := .next (s.serveCommand 0x31 fun args s => s.deny args)

end Sys2Proof.Machine
end

