-- ==== Sys2Proof/Machine/Reset.lean ====
section
/-! DEFINITION. Pin reset and start-up (12.1): PIN_RESET, RESET_RELEASE, START_UP_END. -/

namespace Sys2Proof.Machine

open Host (Outcome)

/-- RESET_N goes low: a frame in transmission is cut where it stands, a command or a result is discarded, the
transaction in progress is lost, pending expiries and eviction completions are withdrawn (R196, R170). No command but
RESET_RELEASE acts until then, so a pending expiry is never served; the other stores keep their contents, unseen, until
the release (R27) [log 25]. -/
def State.enterReset (s : State) : State :=
  { s with
    inReset := true
    ltx := ⟨.ready, none, s.ltx.beaconPending⟩
    completions := []
    hp := { s.hp with txn := none }
    cu := .idle }

/-- PIN_RESET (R196). -/
def execPinReset (dt : Nat) (s : State) : Outcome State Fault Refusal := .next (s.advance dt).enterReset

/-- What the HOLD strap selects at the release: high HELD with the clocks stopped and no beacon, low RUNNING with a beacon
due and a full period (R197, R146). -/
def State.started (strap : Bool) (s : State) : State :=
  if strap then
    { s with
      ctl := ⟨.held, s.ctl.epoch⟩
      clk := ⟨s.clk.phase, none⟩
      ltx := { s.ltx with beaconPending := false } }
  else
    { s with
      ctl := ⟨.running, s.ctl.epoch⟩
      clk := ⟨s.clk.phase, some ⟨0, beaconPeriods s.cfg.beaconPeriod⟩⟩
      ltx := { s.ltx with beaconPending := true } }

/-- RESET_RELEASE: every block takes its reset contents, and the strap is sampled (R196, R197). Line time begins anew;
the queue of waiting commands is outside the part and stays. With RESET_N high there is no release. -/
def execResetRelease (_dt : Nat) (strap : Bool) (s : State) : Outcome State Fault Refusal :=
  if s.inReset then .next { State.reset.started strap with pending := s.pending } else .next s

/-- START_UP_END: the start-up interval ends after `dt`, no later than tSTART after the release (R196) [log 17]. -/
def execStartUpEnd (dt : Nat) (s : State) : Outcome State Fault Refusal :=
  if s.inReset || !s.startUp then .next s
  else .next { s.advance (min dt (startUpLimit - s.now)) with startUp := false }

end Sys2Proof.Machine
end

