-- ==== Sys2Proof/Machine/Transmit.lean ====
section
/-! DEFINITION. The transmitter, the beacon and the join window (chapter 8). -/

namespace Sys2Proof.Machine

open Host (Outcome)

/-! ### Choosing and starting a frame (R139, R140, R148) -/

/-- The ANSWER entry of the earliest deadline not passed at an instant, nearer the head between equals: its place and
deadline (R140). -/
def bestAnswer (t : Nat) (q : List Entry) (i : Nat) : Option (Nat × Nat) :=
  match q with
  | [] => none
  | e :: rest =>
    match e.kind with
    | .answer d =>
      if t ≤ d then
        match bestAnswer t rest (i + 1) with
        | some (j, dj) => if dj < d then some (j, dj) else some (i, d)
        | none => some (i, d)
      else bestAnswer t rest (i + 1)
    | _ => bestAnswer t rest (i + 1)

/-- An OFFER or EVICT entry. -/
def Entry.unsolicited (e : Entry) : Bool :=
  match e.kind with
  | .answer _ => false
  | _ => true

/-- Steps 1 and 2 of the choice: the place in TXQ of the entry to send (R140). -/
def chooseEntry (t : Nat) (q : List Entry) : Option Nat :=
  match bestAnswer t q 0 with
  | some (i, _) => some i
  | none => q.findIdx? Entry.unsolicited

/-- The beacon frame as the roster and configuration stand (R148, R205). -/
def State.beaconFrame (s : State) : Frame where
  ftype := 2
  dest := 63
  code := 0xC0
  tag := 0
  payload := s.epochBytes ++ [byte (policyNumber s.cfg.policy), byte s.cfg.joinSlots, byte s.ros.free.length]
    ++ be16 s.cfg.leaseTime

/-- An attempt at a whole frame from byte 0, marked, at the present instant (R139). -/
def State.attempt (kind : AttemptKind) (bytes : List Byte) (s : State) : LtxState :=
  .sending ⟨kind, bytes, 0, ⟨bytes.getD 0 0, true, s.now, tBit s.cfg.lineRate⟩, none, false⟩

/-- The entry at a place is marked as the one in the attempt. -/
def markAttempt (i : Nat) (q : List Entry) : List Entry := q.modify i fun e => { e with inAttempt := true }

/-- LTX starts the chosen entry, or the due beacon, or nothing (R140). -/
def State.startAttempt (s : State) : State :=
  match chooseEntry s.now s.txq with
  | some i =>
    match s.txq[i]? with
    | some e =>
      (s.setTxq (markAttempt i s.txq)).setLtx { s.ltx with state := s.attempt .entry (frameBytes e.frame) }
    | none => s
  | none =>
    if s.ltx.beaconPending then
      s.setLtx { s.ltx with
        state := s.attempt (.beacon s.cfg.joinSlots) (frameBytes s.beaconFrame), beaconPending := false }
    else s

/-- The instant from which READY and a line silent for tTURN both hold, none while they cannot (R139). -/
def State.startInstant (s : State) : Option Nat :=
  match s.inReset, s.ltx.state, s.ltx.tail, s.lrx.sil with
  | false, .ready, none, .since t => some (max s.now (t + tTurn s.cfg.lineRate))
  | _, _, _, _ => none

/-- There is a frame to send (R140). -/
def State.frameToSend (s : State) : Bool := (chooseEntry s.now s.txq).isSome || s.ltx.beaconPending

/-- TX_ATTEMPT_START: line time runs to the instant at which LTX is READY, the line has been silent for tTURN and there
is a frame to send, and the attempt starts there (R139). -/
def execTxAttemptStart (s : State) : Outcome State Fault Refusal :=
  match s.startInstant with
  | some t => if (s.advanceTo t).frameToSend then .next (s.advanceTo t).startAttempt else .next s
  | none => .next s

/-! ### The end of an attempt (R141, R143 to R145) -/

/-- The entry in the attempt, with its place. -/
def State.attemptEntry (s : State) : Option (Nat × Entry) :=
  match s.txq.findIdx? Entry.inAttempt with
  | some i => (s.txq[i]?).map fun e => (i, e)
  | none => none

/-- The end of an EVICT entry is raised to TC (R99). -/
def State.raiseCompletion (e : Entry) (s : State) : State :=
  match e.kind with
  | .evict slot => s.setCompletions (s.completions ++ [slot])
  | _ => s

/-- An entry's deadline has passed; unsolicited entries have none (R141). -/
def Entry.expired (e : Entry) (now : Nat) (deadlineFirst : Bool) : Bool :=
  match e.kind with
  | .answer d => deadlinePassed d now deadlineFirst
  | _ => false

/-- LTX in BACKOFF with tBACK(k) after an attempt aborted at an instant (R143). -/
def State.backoff (k aborted : Nat) (s : State) : State := s.setLtx { s.ltx with state := .backoff k aborted }

/-- An aborted attempt at the entry at place `i`: removed as late when its deadline has passed (R141), else abandoned
when its attempts reach TX_ATTEMPTS (R144), else kept with one attempt more; BACKOFF follows (R143). -/
def State.abortEntry (i : Nat) (e : Entry) (aborted : Nat) (deadlineFirst : Bool) (s : State) : State :=
  let k := e.attempts + 1
  if e.expired s.now deadlineFirst then ((s.setTxq (s.txq.eraseIdx i)).noteLate).backoff k aborted
  else if s.cfg.txAttempts ≤ k then
    ((((s.setTxq (s.txq.eraseIdx i)).countAbandon).setNotice .transmitAbandoned).raiseCompletion e).backoff k aborted
  else (s.setTxq (s.txq.set i { e with attempts := k, inAttempt := false })).backoff k aborted

/-- An attempt is aborted at the end of its character: a beacon is dropped with BACKOFF 1 (R143). -/
def State.abortAttempt (a : Attempt) (deadlineFirst : Bool) (s : State) : State :=
  match a.kind with
  | .beacon _ => s.backoff 1 a.drive.finish
  | .entry =>
    match s.attemptEntry with
    | some (i, e) => s.abortEntry i e a.drive.finish deadlineFirst
    | none => s.backoff 1 a.drive.finish

/-- TRANSMIT_ABORT: the character ends whose check failed, for which no echo has come, or at which a rate change aborts
the attempt (R142, R143, R150). -/
def execTransmitAbort (deadlineFirst : Bool) (s : State) : Outcome State Fault Refusal :=
  match s.inReset, s.ltx.state with
  | false, .sending a =>
    if a.abortAtEnd = true ∨ a.echo ≠ some true then .next ((s.advanceTo a.drive.finish).abortAttempt a deadlineFirst)
    else .next s
  | _, _ => .next s

/-- A complete beacon opens a join window of the join slots it carried, or none (R149). -/
def State.openWindow (slots finish : Nat) (s : State) : State :=
  s.setLtx { s.ltx with
    state := if 1 ≤ slots then .window (finish + slots * tSlot s.cfg.lineRate) else .ready }

/-- A complete attempt: the entry leaves TXQ and an EVICT raises its completion (R145), or the beacon's window opens
(R149). -/
def State.completeAttempt (a : Attempt) (s : State) : State :=
  match a.kind with
  | .beacon slots => s.openWindow slots a.drive.finish
  | .entry =>
    match s.attemptEntry with
    | some (i, e) => ((s.setTxq (s.txq.eraseIdx i)).raiseCompletion e).setLtx { s.ltx with state := .ready }
    | none => s.setLtx { s.ltx with state := .ready }

/-- TRANSMIT_COMPLETE: the last character ends and its echo has passed (R139, R145) [log 13]. -/
def execTransmitComplete (s : State) : Outcome State Fault Refusal :=
  match s.inReset, s.ltx.state with
  | false, .sending a =>
    if a.abortAtEnd = false ∧ a.echo = some true ∧ a.index + 1 = a.bytes.length then
      .next ((s.advanceTo a.drive.finish).completeAttempt a)
    else .next s
  | _, _ => .next s

/-- CUT_CHARACTER_END: the character at which a beacon or frame was cut ends, and DE is released (R150, R151). -/
def execCutCharacterEnd (s : State) : Outcome State Fault Refusal :=
  match s.inReset, s.ltx.tail with
  | false, some d =>
    let s1 := s.advanceTo d.finish
    .next (s1.setLtx { s1.ltx with tail := none })
  | _, _ => .next s

/-! ### Window, backoff, deadlines, beacon timer -/

/-- JOIN_WINDOW_CLOSE: the closing instant (R149). -/
def execJoinWindowClose (s : State) : Outcome State Fault Refusal :=
  match s.inReset, s.ltx.state with
  | false, .window closing =>
    let s1 := s.advanceTo closing
    .next (s1.setLtx { s1.ltx with state := .ready })
  | _, _ => .next s

/-- BACKOFF_END: the silence after the abort reaches tBACK(k) (R139, R143). A measure held at 0 does not reach it. -/
def execBackoffEnd (s : State) : Outcome State Fault Refusal :=
  match s.inReset, s.ltx.state, s.lrx.sil with
  | false, .backoff k aborted, .since t =>
    let s1 := s.advanceTo (backoffEnd s.cfg.lineRate k aborted t)
    .next (s1.setLtx { s1.ltx with state := .ready })
  | _, _, _ => .next s

/-- The ANSWER entry not in an attempt whose deadline comes first, nearer the head between equals: place and
deadline (R141). -/
def firstDeadline (q : List Entry) (i : Nat) : Option (Nat × Nat) :=
  match q with
  | [] => none
  | e :: rest =>
    match e.kind, e.inAttempt with
    | .answer d, false =>
      match firstDeadline rest (i + 1) with
      | some (j, dj) => if dj < d then some (j, dj) else some (i, d)
      | none => some (i, d)
    | _, _ => firstDeadline rest (i + 1)

/-- ANSWER_DEADLINE_PASSED: the entry whose deadline comes first is removed unsent at it, counted late with ANSWER_LATE
(R141). -/
def execAnswerDeadlinePassed (s : State) : Outcome State Fault Refusal :=
  match s.inReset, firstDeadline s.txq 0 with
  | false, some (i, d) => .next ((s.advanceTo d).setTxq (s.txq.eraseIdx i)).noteLate
  | _, _ => .next s

/-- BEACON_DUE: CLKIN runs until the beacon period timer completes its period, which sets beacon-pending and starts the
next period (R146, R147) [log 2]. -/
def execBeaconDue (s : State) : Outcome State Fault Refusal :=
  match s.inReset, s.ctl.mode, s.clk.beacon with
  | false, .running, some b => .next (s.advance (b.period - b.elapsed))
  | _, _, _ => .next s

end Sys2Proof.Machine
end

