-- ==== Sys2Proof/Machine/Dispatch.lean ====
section
/-! DEFINITION. The meaning of each command: one arm per constructor of Instr. -/

namespace Sys2Proof.Machine

open Host

def exec (i : Instr) (s : State) : Host.Outcome State Fault Refusal :=
  match i with
  | .pinReset dt => Sys2Proof.Machine.execPinReset dt s
  | .resetRelease dt strap => Sys2Proof.Machine.execResetRelease dt strap s
  | .startUpEnd dt => Sys2Proof.Machine.execStartUpEnd dt s
  | .frameReceived w => Sys2Proof.Machine.execFrameReceived w s
  | .markedCharacter w => Sys2Proof.Machine.execMarkedCharacter w s
  | .lengthMalformed w => Sys2Proof.Machine.execLengthMalformed w s
  | .framingError w => Sys2Proof.Machine.execFramingError w s
  | .frameGapTruncation => Sys2Proof.Machine.execFrameGapTruncation s
  | .txAttemptStart => Sys2Proof.Machine.execTxAttemptStart s
  | .transmitAbort deadlineFirst => Sys2Proof.Machine.execTransmitAbort deadlineFirst s
  | .transmitComplete => Sys2Proof.Machine.execTransmitComplete s
  | .joinWindowClose => Sys2Proof.Machine.execJoinWindowClose s
  | .backoffEnd => Sys2Proof.Machine.execBackoffEnd s
  | .answerDeadlinePassed => Sys2Proof.Machine.execAnswerDeadlinePassed s
  | .beaconDue => Sys2Proof.Machine.execBeaconDue s
  | .secondEvent => Sys2Proof.Machine.execSecondEvent s
  | .leaseExpiry slot => Sys2Proof.Machine.execLeaseExpiry slot s
  | .graceExpiry slot => Sys2Proof.Machine.execGraceExpiry slot s
  | .offerExpiry slot => Sys2Proof.Machine.execOfferExpiry slot s
  | .holdDownExpiry address => Sys2Proof.Machine.execHoldDownExpiry address s
  | .approvalExpiry uid => Sys2Proof.Machine.execApprovalExpiry uid s
  | .evictionCompletion slot => Sys2Proof.Machine.execEvictionCompletion slot s
  | .join deadlineFirst => Sys2Proof.Machine.execJoin deadlineFirst s
  | .confirm deadlineFirst => Sys2Proof.Machine.execConfirm deadlineFirst s
  | .renew deadlineFirst => Sys2Proof.Machine.execRenew deadlineFirst s
  | .leave deadlineFirst => Sys2Proof.Machine.execLeave deadlineFirst s
  | .resolve deadlineFirst => Sys2Proof.Machine.execResolve deadlineFirst s
  | .identify deadlineFirst => Sys2Proof.Machine.execIdentify deadlineFirst s
  | .info deadlineFirst => Sys2Proof.Machine.execInfo deadlineFirst s
  | .groupList deadlineFirst => Sys2Proof.Machine.execGroupList deadlineFirst s
  | .subscribe deadlineFirst => Sys2Proof.Machine.execSubscribe deadlineFirst s
  | .unsubscribe deadlineFirst => Sys2Proof.Machine.execUnsubscribe deadlineFirst s
  | .unsupportedRequest deadlineFirst => Sys2Proof.Machine.execUnsupportedRequest deadlineFirst s
  | .status dt phase => Sys2Proof.Machine.execStatus dt phase s
  | .submit dt phase => Sys2Proof.Machine.execSubmit dt phase s
  | .fetch dt phase => Sys2Proof.Machine.execFetch dt phase s
  | .changes dt phase => Sys2Proof.Machine.execChanges dt phase s
  | .conflictTransaction dt phase => Sys2Proof.Machine.execConflictTransaction dt phase s
  | .unknownTransaction dt code phase => Sys2Proof.Machine.execUnknownTransaction dt code phase s
  | .readEntry => Sys2Proof.Machine.execReadEntry s
  | .findUid => Sys2Proof.Machine.execFindUid s
  | .findAddress => Sys2Proof.Machine.execFindAddress s
  | .list => Sys2Proof.Machine.execList s
  | .provision => Sys2Proof.Machine.execProvision s
  | .edit => Sys2Proof.Machine.execEdit s
  | .evict => Sys2Proof.Machine.execEvict s
  | .delete => Sys2Proof.Machine.execDelete s
  | .bar => Sys2Proof.Machine.execBar s
  | .approve => Sys2Proof.Machine.execApprove s
  | .deny => Sys2Proof.Machine.execDeny s
  | .readQueue => Sys2Proof.Machine.execReadQueue s
  | .groupAdd => Sys2Proof.Machine.execGroupAdd s
  | .groupRemove => Sys2Proof.Machine.execGroupRemove s
  | .groupClear => Sys2Proof.Machine.execGroupClear s
  | .groupRead => Sys2Proof.Machine.execGroupRead s
  | .groupOpen => Sys2Proof.Machine.execGroupOpen s
  | .configure => Sys2Proof.Machine.execConfigure s
  | .readConfig => Sys2Proof.Machine.execReadConfig s
  | .readPool => Sys2Proof.Machine.execReadPool s
  | .readCounters => Sys2Proof.Machine.execReadCounters s
  | .clearCounters => Sys2Proof.Machine.execClearCounters s
  | .hold => Sys2Proof.Machine.execHold s
  | .release => Sys2Proof.Machine.execRelease s
  | .rosterClear => Sys2Proof.Machine.execRosterClear s
  | .startEdge e => Sys2Proof.Machine.execStartEdge e s
  | .falseStart w high => Sys2Proof.Machine.execFalseStart w high s
  | .unmarkedCharacter w => Sys2Proof.Machine.execUnmarkedCharacter w s
  | .breakEnd dt => Sys2Proof.Machine.execBreakEnd dt s
  | .cutCharacterEnd => Sys2Proof.Machine.execCutCharacterEnd s

end Sys2Proof.Machine
end

