-- ==== Sys2Proof/Safety.lean ====
section
/-! DEFINITION. What a safe part keeps: the laws of the roster, the queues, the transmitter, the receiver and the
configuration, and the conditions under which a request is taken and a command is served, in the terms claims use. -/

namespace Sys2Proof.Machine

/-! ### A step's outcome -/

/-- The command answers the next state `t`. -/
abbrev Runs (c : Instr) (s t : State) : Prop := exec c s = .next t

/-! ### Records and address custody (1.2, 1.6) -/

/-- The fields that R4 says are present or absent, and the flags it fixes, in the record's state. -/
def Record.Shape (r : Record) : Prop :=
  (r.origin = .line → r.reserved = false) ∧
  match r.state with
  | .reserved => r.origin = .host ∧ r.address.isSome = r.reserved ∧ r.remaining = none
  | .offered => r.address.isSome = true ∧ r.remaining.isSome = true
  | .bound => r.address.isSome = true ∧ r.remaining.isSome = !r.pinned
  | .lapsed => r.address.isSome = true ∧ r.remaining.isSome = true ∧ r.pinned = false
  | .evicting => r.address.isSome = true ∧ r.remaining = none
  | .barred => r.origin = .host ∧ r.address = none ∧ r.reserved = false ∧ r.pinned = false ∧ r.remaining = none

/-- The occupied records of a table, in slot order. -/
def occupied (t : List (Option Record)) : List Record := t.filterMap id

/-- The addresses that the records of a table hold: the address map's keys (R20). -/
def heldAddresses (t : List (Option Record)) : List Nat := (occupied t).filterMap Record.address

/-- Every record has the shape of its state (R4), and every address 1..60 is in exactly one of the free list, the
hold-down set and the held addresses, and no other number is in any of them (R21). -/
def State.CustodyLaw (s : State) : Prop :=
  (∀ r ∈ occupied s.ros.table, r.Shape) ∧
  (s.ros.free ++ s.ros.hold.map HoldItem.address ++ heldAddresses s.ros.table).Perm (List.range' 1 60)

/-! ### Identities (R19) -/

/-- A UID appears at most once across the records and the APQ items together, and every one is valid (R6, R19). -/
def State.UidLaw (s : State) : Prop :=
  ((occupied s.ros.table).map Record.uid ++ s.ros.apq.map ApqItem.uid).Nodup ∧
  (∀ r ∈ occupied s.ros.table, validUid r.uid = true) ∧
  ∀ i ∈ s.ros.apq, validUid i.uid = true

/-- What of a record the change set reports (R188): state, address, pinned and reserved flags, label, groups, conflict
count. -/
def Record.visible (r : Record) : RecState × Option Nat × Bool × Bool × List Byte × List Nat × Nat :=
  (r.state, r.address, r.pinned, r.reserved, r.label, r.groups, r.conflicts)

/-! ### Groups (R108) -/

/-- A slot is in a group's member list exactly when its record is occupied, not BARRED and lists the group; no slot or
group number stands twice in a list (R14, R108). -/
def State.GroupLaw (s : State) : Prop :=
  s.ros.groups.length = 16 ∧
  (∀ g < 16, (s.group g).members.Nodup ∧
    ∀ slot, slot ∈ (s.group g).members ↔ ∃ r, s.recordAt slot = some r ∧ r.state ≠ .barred ∧ g ∈ r.groups) ∧
  ∀ slot r, s.recordAt slot = some r → r.groups.Nodup ∧ ∀ g ∈ r.groups, g < 16

/-! ### Capacities (00 section 5) -/

/-- No collection exceeds its capacity, no counter 65 535, no label 12 bytes, no result payload 64 bytes, no payload of a
queued frame 48 bytes; a command in the slot has passed the command unit's check (00 section 5, R170, R172, R193). -/
def State.CapacityLaw (s : State) : Prop :=
  s.ros.table.length = 64 ∧
  s.ros.groups.length = 16 ∧
  s.ros.apq.length ≤ 8 ∧
  s.rxq.length ≤ 4 ∧
  s.txq.length ≤ 6 ∧
  (∀ g < 16, (s.group g).members.length ≤ 24) ∧
  (∀ r ∈ occupied s.ros.table, r.groups.length ≤ 4 ∧ r.label.length ≤ 12) ∧
  (∀ e ∈ s.txq, e.frame.payload.length ≤ 48) ∧
  (∀ n ∈ s.cn.counters.values, n ≤ 65535) ∧
  match s.cu with
  | .idle => True
  | .executing code args => commandOk code args = true
  | .ready r => r.payload.length ≤ 64 ∧ (r.code ≠ .done → r.payload = [])

/-! ### Evictions and the transmitter (R96 to R100, R138) -/

/-- LTX is sending a TXQ entry, not a beacon. -/
def LtxState.sendingEntry (l : LtxState) : Bool :=
  match l with
  | .sending a => a.kind == .entry
  | _ => false

/-- How many EVICT entries and pending completions stand for a slot. -/
def State.evictionsOf (slot : Nat) (s : State) : Nat :=
  s.txq.countP (fun e => e.kind == .evict slot) + s.completions.count slot

/-- Out of reset, exactly the EVICTING records have an EVICT frame on its way or a completion pending, one each, and
exactly one TXQ entry is marked as in the attempt while LTX sends an entry, none otherwise. -/
def State.EvictionLaw (s : State) : Prop :=
  s.inReset = false →
  (∀ slot, s.evictionsOf slot = if slotHas (fun r => r.state == .evicting) (s.recordAt slot) then 1 else 0) ∧
  s.txq.countP Entry.inAttempt = if s.ltx.state.sendingEntry then 1 else 0

/-- A beacon is being sent, or its window is open. -/
def LtxState.beaconing (l : LtxState) : Bool :=
  match l with
  | .sending a => a.kind != .entry
  | .window _ => true
  | _ => false

/-- In HELD the beacon period timer is stopped, no beacon is pending or sent and no window is open; in RUNNING the timer
runs (R146, R147, R149, R150). The roster clock's phase is within its second (R59). -/
def State.HeldLaw (s : State) : Prop :=
  s.clk.phase < 14745600 ∧
  match s.ctl.mode with
  | .held => s.clk.beacon = none ∧ s.ltx.beaconPending = false ∧ s.ltx.state.beaconing = false
  | .running => s.clk.beacon.isSome = true

/-! ### Configuration (R183) -/

/-- Every parameter is in its range. -/
def State.ConfigLaw (s : State) : Prop :=
  ∀ i < 13, valueInRange (i + 1) (s.cfg.values.getD i 0) = true

/-! ### Reception (R126, R127, R129, R132) -/

/-- A frame in assembly has its declared length once byte 4 has come, 7 + L for an L of at most 48, has not reached it,
and its running CRC is that of its bytes up to 4 + L; an RXQ item is a request to 0 with a source byte 0..63 and at most 48
payload bytes. -/
def State.ReceptionLaw (s : State) : Prop :=
  (∀ a, s.lrx.frm = .assembling a →
    1 ≤ a.bytes.length ∧
    (match a.declared with
      | none => a.bytes.length ≤ 4 ∧ a.crc = crcOf a.bytes
      | some l => 5 ≤ a.bytes.length ∧ a.bytes.length < l ∧ l = 7 + natAt a.bytes 4 ∧ l ≤ 55
          ∧ a.crc = crcOf (a.bytes.take (l - 2)))) ∧
  ∀ r ∈ s.rxq, r.dest = 0 ∧ r.source ≤ 63 ∧ r.payload.length ≤ 48

/-! ### Characters (R122, R123) -/

/-- The bit of a position of a character, 0 to 10: the majority of its samples 7, 8 and 9. -/
def majority (w : CharWave) (k : Nat) : Bool :=
  (w.s7.getLsbD k && w.s8.getLsbD k) || (w.s7.getLsbD k && w.s9.getLsbD k) || (w.s8.getLsbD k && w.s9.getLsbD k)

/-- The samples decide a valid start, and this mark and this stop bit. -/
abbrev Decides (w : CharWave) (mark stop : Bool) : Prop :=
  majority w 0 = false ∧ majority w 9 = mark ∧ majority w 10 = stop

/-- The bits of the first `n` positions after the start. -/
def receivedBits (w : CharWave) (n : Nat) : List Bool := (List.range n).map fun k => majority w (k + 1)

/-! ### Taking a request (9.1) and serving a command (10.2) -/

/-- TC may take the head of RXQ: the part is out of reset and TXQ has room (R137). -/
abbrev Taking (r : Request) (rest : List Request) (s : State) : Prop :=
  s.inReset = false ∧ s.rxq = r :: rest ∧ s.txq.length < 6

/-- The deadline has not passed, or is this very instant and the taking comes first (R137). -/
abbrev InTime (deadlineFirst : Bool) (r : Request) (s : State) : Prop :=
  s.now < r.deadline ∨ (s.now = r.deadline ∧ deadlineFirst = false)

/-- The request passes checks 0 to 5: in time, a source that can be answered, RUNNING, a code served and of the right
length, and not another code than JOIN from 61 (R152). -/
abbrev Heard (deadlineFirst : Bool) (r : Request) (s : State) : Prop :=
  InTime deadlineFirst r s ∧ r.source ≠ 0 ∧ r.source ≠ 62 ∧ r.source ≠ 63 ∧ s.ctl.mode = .running ∧
  requestLength r.code = some r.payload.length ∧ (r.source = 61 → r.code = 0x01)

/-- A life-cycle request of the code passes its admission with a valid UID (R28, R152). -/
abbrev Served (deadlineFirst : Bool) (code : Byte) (r : Request) (rest : List Request) (s : State) : Prop :=
  Taking r rest s ∧ Heard deadlineFirst r s ∧ r.code = code ∧ validUid r.uid = true

/-- A lookup or group request of the code passes its admission (R152, R158). -/
abbrev ServedBound (deadlineFirst : Bool) (code : Byte) (r : Request) (rest : List Request) (s : State) : Prop :=
  Taking r rest s ∧ Heard deadlineFirst r s ∧ r.code = code ∧ s.boundSource r.source = true

/-- The command by which TC takes a request of a code (R155). -/
def takerOf (code : Byte) (deadlineFirst : Bool) : Instr :=
  match code.toNat with
  | 0x01 => .join deadlineFirst
  | 0x02 => .confirm deadlineFirst
  | 0x03 => .renew deadlineFirst
  | 0x04 => .leave deadlineFirst
  | 0x10 => .resolve deadlineFirst
  | 0x11 => .identify deadlineFirst
  | 0x12 => .groupList deadlineFirst
  | 0x13 => .info deadlineFirst
  | 0x20 => .subscribe deadlineFirst
  | 0x21 => .unsubscribe deadlineFirst
  | _ => .unsupportedRequest deadlineFirst

/-- A command that passed the command unit's check waits for TC (R170, R172). -/
abbrev Serving (code : Byte) (args : List Byte) (s : State) : Prop :=
  s.inReset = false ∧ s.cu = .executing code args ∧ commandOk code args = true

/-- The ANSWER entry that a request gets (R136, R159): type 1, its deadline and its tag, with the destination, code and
payload given. -/
def answered (r : Request) (dest : Nat) (code : Byte) (payload : List Byte) : Entry where
  kind := .answer r.deadline
  frame := { ftype := 1, dest := dest, code := code, tag := r.tag, payload := payload }
  attempts := 0
  inAttempt := false

/-- What an OFFER carries (R37, R205): UID, address, lease, offer time, epoch. -/
def offerBytes (u : Uid) (address lease offerTime epoch : Nat) : List Byte :=
  uidBytes u ++ [byte address] ++ be16 lease ++ [byte offerTime] ++ be16 epoch

/-- What a binding ACK carries (R29, R205): lease, group count and groups, epoch. -/
def bindingBytes (lease : Nat) (groups : List Nat) (epoch : Nat) : List Byte :=
  be16 lease ++ byte groups.length :: groups.map byte ++ be16 epoch

/-- The change and notice unit with a slot's bit set and no longer unrepeated (R188, R191). -/
def Cn.marked (slot : Nat) (c : Cn) : Cn :=
  { c with changes := c.changes ||| (1#64 <<< slot), marks := c.marks &&& ~~~(1#64 <<< slot) }

/-- The change and notice unit with a notice set and no longer unrepeated (R189, R191); `bit` is its place in the notice
byte (R206). -/
def Cn.noticed (bit : Nat) (c : Cn) : Cn :=
  { c with notices := c.notices ||| (1#7 <<< bit), noticeMarks := c.noticeMarks &&& ~~~(1#7 <<< bit) }

/-- The transmitter after LRX hands back a character, or a framing error (`none`), at an instant (R142): it is the echo of
the character being sent unless that has one, and passes when it comes by the end of that character and equals it. -/
def Ltx.hears (x : Option (Byte × Bool)) (now : Nat) (l : Ltx) : Ltx :=
  match l.state with
  | .sending a =>
    if a.echo = none then
      { l with
        state := .sending { a with
          echo := some (x == some (a.drive.byte, a.drive.mark) && decide (now ≤ a.drive.start + 11 * a.drive.bit)) } }
    else l
  | _ => l

/-- The change and notice unit with the truncated or malformed counter one higher (R193). -/
def Cn.malformedOnce (c : Cn) : Cn :=
  { c with counters := { c.counters with malformed := min (c.counters.malformed + 1) 65535 } }

/-- The change and notice unit after a late answer or request: counter and ANSWER_LATE (R137, R141). -/
def Cn.lateOnce (c : Cn) : Cn :=
  Cn.noticed 4 { c with counters := { c.counters with late := min (c.counters.late + 1) 65535 } }

/-- The roster after an address is given up for a UID (R23): a new hold-down item at the end of the set, or with HOLD_TIME
0 the free list's tail. -/
def Roster.gaveUp (holdTime a : Nat) (u : Uid) (ros : Roster) : Roster :=
  if holdTime = 0 then { ros with free := ros.free ++ [a] }
  else { ros with hold := ros.hold ++ [{ address := a, uid := u, remaining := holdTime }] }

/-- The roster after the release rule on a slot's record that holds address `a` (R52): a reserved HOST record keeps its
address (R53), another HOST record gives it up (R54), and a LINE record is removed and gives it up (R55). -/
def Roster.released (holdTime slot : Nat) (r : Record) (a : Nat) (ros : Roster) : Roster :=
  match r.origin, r.reserved with
  | .host, true => { ros with table := ros.table.set slot (some { r with state := .reserved, remaining := none }) }
  | .host, false =>
    Roster.gaveUp holdTime a r.uid { ros with
      table := ros.table.set slot (some { r with state := .reserved, remaining := none, address := none }) }
  | .line, _ =>
    Roster.gaveUp holdTime a r.uid { ros with
      table := ros.table.set slot none
      groups := ros.groups.map fun g => { g with members := g.members.erase slot } }

/-- The command's result: its code and payload in the result buffer, and nothing else changed (R170, R174). -/
def State.resulted (code : ResultCode) (payload : List Byte) (s : State) : State :=
  { s with cu := .ready { code := code, payload := payload } }

end Sys2Proof.Machine
end

