-- ==== Sys2Proof/WellFormed.lean ====
section
/-! DEFINITION. Well-formed commands: the operands are ones the spec's event can have. -/

namespace Sys2Proof

/-- A slot number is 0..63 (00 section 5). -/
abbrev SlotOk (slot : Nat) : Prop := slot < 64

/-- An assignable station address is 1..60 (00 section 5). -/
abbrev AddressOk (a : Nat) : Prop := 1 ≤ a ∧ a ≤ 60

/-- The invalid UIDs are 0000-0000-0000 and FFFF-FFFF-FFFF (00 section 5). -/
abbrev UidOk (u : Uid) : Prop := u ≠ 0 ∧ u ≠ BitVec.allOnes 48

/-- The operands fit the event that the command names. -/
def Instr.wf : Instr → Bool
  | .leaseExpiry slot | .graceExpiry slot | .offerExpiry slot | .evictionCompletion slot => decide (SlotOk slot)
  | .holdDownExpiry a => decide (AddressOk a)
  | .approvalExpiry u => decide (UidOk u)
  | .unknownTransaction _ code _ => decide (code.toNat = 0 ∨ 5 < code.toNat)
  | .pinReset _ | .resetRelease _ _ | .startUpEnd _ | .frameReceived _ | .markedCharacter _ | .unmarkedCharacter _
  | .lengthMalformed _ | .framingError _ | .falseStart _ _ | .frameGapTruncation | .txAttemptStart | .transmitAbort _
  | .transmitComplete | .joinWindowClose | .backoffEnd | .answerDeadlinePassed | .beaconDue | .secondEvent
  | .join _ | .confirm _ | .renew _ | .leave _ | .resolve _ | .identify _ | .info _ | .groupList _ | .subscribe _
  | .unsubscribe _ | .unsupportedRequest _ | .status _ _ | .submit _ _ | .fetch _ _ | .changes _ _
  | .conflictTransaction _ _ | .readEntry | .findUid | .findAddress | .list | .provision | .edit | .evict | .delete
  | .bar | .approve | .deny | .readQueue | .groupAdd | .groupRemove | .groupClear | .groupRead | .groupOpen
  | .configure | .readConfig | .readPool | .readCounters | .clearCounters | .hold | .release | .rosterClear
  | .startEdge _ | .breakEnd _ | .cutCharacterEnd => true

end Sys2Proof
end

