-- ==== Sys2Proof/Certificates/Slice0/Obligations.lean ====
section
/-! DEFINITION. The statements for the provers. A statement of a command's effect gives the whole next state, so that what
it does not name is unchanged. Time passes in CLKIN periods by `State.advance` [log 1, log 2]. -/

open Sys2Proof Sys2Proof.Machine

/-! ### The step and the laws every step keeps -/

/-- The command at the front of the queue is the one a step runs, on the state with the queue's rest. -/
def Obligations.StepRunsTheFrontCommand : Prop :=
  ∀ (c : Instr) (s : State) (rest : List Instr),
    step { s with pending := c :: rest } = exec c { s with pending := rest }

/-- The state after reset keeps every law of the part. -/
def Obligations.ResetKeepsTheLaws : Prop :=
  State.reset.CustodyLaw ∧ State.reset.UidLaw ∧ State.reset.GroupLaw ∧ State.reset.CapacityLaw ∧
  State.reset.EvictionLaw ∧ State.reset.HeldLaw ∧ State.reset.ConfigLaw ∧ State.reset.ReceptionLaw

/-- R4, R20, R21: the records have the shape of their states, and every address 1..60 stays in exactly one of the free
list, the hold-down set and the held addresses, so that the three numbers sum to 60. -/
def Obligations.CustodyLawKept : Prop :=
  ∀ s t : State, s.CustodyLaw → step s = .next t →
    t.CustodyLaw ∧ t.ros.free.length + t.ros.hold.length + (heldAddresses t.ros.table).length = 60

/-- R6, R19: no UID comes to stand twice across the records and the APQ items together. -/
def Obligations.UidLawKept : Prop :=
  ∀ s t : State, s.UidLaw → step s = .next t → t.UidLaw

/-- R14, R108: the member lists and the records' groups never disagree. -/
def Obligations.GroupLawKept : Prop :=
  ∀ s t : State, s.GroupLaw → step s = .next t → t.GroupLaw

/-- R96 to R100: no eviction is lost and none completes twice; R138: exactly the entry LTX sends is in the attempt. -/
def Obligations.EvictionLawKept : Prop :=
  ∀ s t : State, s.EvictionLaw → step s = .next t → t.EvictionLaw

/-- R59, R146, R147, R149, R150: HELD stops the beacon timer, the pending beacon, the beacon being sent and the window; the
roster clock's phase stays within 0..14 745 599. -/
def Obligations.HeldLawKept : Prop :=
  ∀ s t : State, s.HeldLaw → step s = .next t → t.HeldLaw

/-- 00 section 5, R170, R172, R193: no collection, counter, result or queued frame exceeds its capacity. -/
def Obligations.CapacityLawKept : Prop :=
  ∀ s t : State, s.CapacityLaw → step s = .next t → t.CapacityLaw

/-- R126, R127, R129, R131, R132: the frame assembler's count, declared length and running CRC stay those of the bytes
received, and only requests to address 0 enter RXQ. -/
def Obligations.ReceptionLawKept : Prop :=
  ∀ s t : State, s.ReceptionLaw → step s = .next t → t.ReceptionLaw

/-- R24: an address in the hold-down set comes to be held only by a record of the UID its item remembers. -/
def Obligations.HoldDownKeepsTheAddress : Prop :=
  ∀ (c : Instr) (s t : State) (i : HoldItem) (slot : Nat) (r : Record),
    s.CustodyLaw → Runs c s t → i ∈ s.ros.hold → t.recordAt slot = some r → r.address = some i.address → r.uid = i.uid

/-- R188: a change of a record's state, address, flags, label, groups or conflict count sets its slot's change bit, in
every command but ROSTER CLEAR and the end of reset, which clear the change set. -/
def Obligations.EveryChangeIsMarked : Prop :=
  ∀ (c : Instr) (s t : State) (slot : Nat), slot < 64 → Runs c s t → c ≠ .rosterClear →
    (∀ dt strap, c ≠ .resetRelease dt strap) →
    (s.recordAt slot).map Record.visible ≠ (t.recordAt slot).map Record.visible →
    t.cn.changes.getLsbD slot = true

/-- R5, R6, R7, R12, R13: while a slot stays occupied its record keeps its UID and origin, changes its address only by
giving it up or taking one, and its two counts never fall. -/
def Obligations.RecordIdentityKept : Prop :=
  ∀ (c : Instr) (s t : State) (slot : Nat) (r r' : Record), s.CustodyLaw → Runs c s t →
    s.recordAt slot = some r → t.recordAt slot = some r' →
    r'.uid = r.uid ∧ r'.origin = r.origin ∧ (∀ a b, r.address = some a → r'.address = some b → a = b) ∧
    (r.binds ≤ 255 → r.binds ≤ r'.binds ∧ r'.binds ≤ 255) ∧
    (r.conflicts ≤ 15 → r.conflicts ≤ r'.conflicts ∧ r'.conflicts ≤ 15)

/-- R62: in HELD no remaining time decreases: a record's timer keeps its time, stops, or starts anew with more; a hold-down
item keeps its time or is new with the full HOLD_TIME; the APQ items that stay are as they were. -/
def Obligations.HeldFreezesTheTimers : Prop :=
  ∀ (c : Instr) (s t : State), s.CustodyLaw → s.ctl.mode = .held → Runs c s t →
    (∀ slot r r' n n', s.recordAt slot = some r → t.recordAt slot = some r' →
      r.remaining = some n → r'.remaining = some n' → n ≤ n') ∧
    (∀ i ∈ t.ros.hold, i ∈ s.ros.hold ∨ i.remaining = s.cfg.holdTime) ∧
    t.ros.apq.Sublist s.ros.apq

/-- R183, R198 to R201: every parameter stays in its range, and only CONFIGURE and the end of reset change one; only HOLD,
RELEASE, ROSTER CLEAR and the end of reset change the mode, only RELEASE and the end of reset the epoch. -/
def Obligations.ParametersModeAndEpochAreGuarded : Prop :=
  (∀ s t : State, s.ConfigLaw → step s = .next t → t.ConfigLaw) ∧
  ∀ (c : Instr) (s t : State), Runs c s t → (∀ dt strap, c ≠ .resetRelease dt strap) →
    (t.cfg ≠ s.cfg → c = .configure) ∧
    (t.ctl.mode ≠ s.ctl.mode → c = .hold ∨ c = .release ∨ c = .rosterClear) ∧
    (t.ctl.epoch ≠ s.ctl.epoch → c = .release)

/-! ### Lookups, claims and assignment -/

/-- R2, R18, R20: a UID lookup finds exactly the record that carries the UID, an address lookup exactly the record that
holds the address, and the slot for a new record is the lowest VACANT one. -/
def Obligations.LookupsAreExact : Prop :=
  (∀ (s : State) (u : Uid) (slot : Nat) (r : Record), s.UidLaw →
    (s.findUid u = some (slot, r) ↔ s.recordAt slot = some r ∧ r.uid = u)) ∧
  (∀ (s : State) (a slot : Nat) (r : Record), s.CustodyLaw →
    (s.findAddr a = some (slot, r) ↔ s.recordAt slot = some r ∧ r.address = some a)) ∧
  ∀ (s : State) (slot : Nat),
    s.vacantSlot = some slot ↔
      slot < s.ros.table.length ∧ s.recordAt slot = none ∧ ∀ lower < slot, (s.recordAt lower).isSome = true

/-- R25, R26: a claim of a named address succeeds exactly when the address is free or stands in an item that remembers the
UID, and takes it out of that one place; the assignment order takes the first of its five steps that applies: the
reserved address, the oldest item that remembers the UID, a free preferred address, the free list's head, nothing. The
order of what remains is kept. -/
def Obligations.ClaimAndAssignmentOrder : Prop :=
  (∀ (a : Nat) (u : Uid) (free : List Nat) (hold : List HoldItem),
    (a ∈ free → claim a u (free, hold) = some (free.erase a, hold)) ∧
    (∀ before after i, a ∉ free → hold = before ++ i :: after → i.address = a → i.uid = u →
      (∀ j ∈ before, j.address ≠ a) → claim a u (free, hold) = some (free, before ++ after)) ∧
    (a ∉ free → (∀ i ∈ hold, i.address = a → i.uid ≠ u) → claim a u (free, hold) = none)) ∧
  ∀ (u : Uid) (p : Nat) (free : List Nat) (hold : List HoldItem),
    (∀ a, assign (some a) u p (free, hold) = some (a, (free, hold))) ∧
    (∀ before after i, hold = before ++ i :: after → i.uid = u → (∀ j ∈ before, j.uid ≠ u) →
      assign none u p (free, hold) = some (i.address, (free, before ++ after))) ∧
    ((∀ i ∈ hold, i.uid ≠ u) →
      (1 ≤ p → p ≤ 60 → p ∈ free → assign none u p (free, hold) = some (p, (free.erase p, hold))) ∧
      ((p < 1 ∨ 60 < p ∨ p ∉ free) →
        (∀ a rest, free = a :: rest → assign none u p (free, hold) = some (a, (rest, hold))) ∧
        (free = [] → assign none u p (free, hold) = none)))

/-! ### Taking requests (9.1, 9.2) -/

/-- R137, R152, R153, R159: TC takes the head of RXQ; a late request or one from 0, 62 or 63 is discarded and counted with
nothing else changed, and any other gets exactly one ANSWER entry, with its deadline and tag, to 61 for a JOIN and else to
the source. -/
def Obligations.TakenRequestIsAnsweredOnce : Prop :=
  ∀ (b : Bool) (r : Request) (rest : List Request) (s : State), Taking r rest s →
    ∃ t, Runs (takerOf r.code b) s t ∧ t.rxq = rest ∧
      if ¬ InTime b r s then
        t = { s with rxq := rest, cn := s.cn.lateOnce }
      else if r.source = 0 ∨ r.source = 62 ∨ r.source = 63 then
        t = { s with rxq := rest, cn := s.cn.malformedOnce }
      else
        ∃ code payload, t.txq = s.txq ++ [answered r (if r.code = 0x01 then 61 else r.source) code payload]

/-- R28, R154 to R159, R161, R162: what checks 2 to 6, and then the UID check of a life-cycle request, answer in their order
to a request in time from a source that can be answered: WAIT HELD, UNSUPPORTED, MALFORMED, NOT_BOUND, BAD_UID. An answer
to 61 leads with the UID of a life-cycle request of the right length. Nothing but RXQ and TXQ changes. A request of a code
that R155 does not name is the one UNSUPPORTED_REQUEST takes. First, R155's table of codes and payload lengths. -/
def Obligations.AdmissionAnswers : Prop :=
  (∀ (code : Byte) (n : Nat), requestLength code = some n ↔
    (code.toNat, n) ∈ [(0x01, 8), (0x02, 6), (0x03, 6), (0x04, 6), (0x10, 6), (0x11, 1), (0x12, 1), (0x13, 0), (0x20, 1),
      (0x21, 1)]) ∧
  ∀ (b : Bool) (r : Request) (rest : List Request) (s : State), Taking r rest s → InTime b r s →
    r.source ≠ 0 → r.source ≠ 62 → r.source ≠ 63 →
    let dest := if r.code = 0x01 then 61 else r.source
    let lead := if dest = 61 ∧ 1 ≤ r.code.toNat ∧ r.code.toNat ≤ 4 ∧ requestLength r.code = some r.payload.length
      then r.payload.take 6 else []
    let bound := match s.findAddr r.source with
      | some (_, rd) => rd.state == .bound || rd.state == .lapsed
      | none => false
    let answer (code : Byte) (contents : List Byte) : State :=
      { s with rxq := rest, txq := s.txq ++ [answered r dest code (lead ++ contents)] }
    (requestLength r.code = none → s.ctl.mode = .running →
      Runs (.unsupportedRequest b) s (answer 0x82 [8])) ∧
    ∃ t, Runs (takerOf r.code b) s t ∧
      if s.ctl.mode = .held then t = answer 0x81 [1, byte (s.cfg.beaconPeriod / 10)]
      else if requestLength r.code = none then t = answer 0x82 [8]
      else if requestLength r.code ≠ some r.payload.length then t = answer 0x82 [7]
      else if r.source = 61 ∧ r.code ≠ 0x01 then t = answer 0x82 [5]
      else if 0x10 ≤ r.code.toNat ∧ bound = false then t = answer 0x82 [5]
      else if r.code.toNat ≤ 4 ∧ (r.uid = 0 ∨ r.uid = BitVec.allOnes 48) then t = answer 0x82 [14]
      else True

/-! ### Life-cycle requests (chapters 2, 4, 5) -/

/-- R11, R30 to R34, R37: a JOIN whose UID has a record, in each state of the record. -/
def Obligations.JoinOfAKnownUid : Prop :=
  ∀ (b : Bool) (r : Request) (rest : List Request) (s : State) (slot : Nat) (rd : Record),
    Served b 0x01 r rest s → s.findUid r.uid = some (slot, rd) →
    let cls := byteAt r.payload 6
    let record (x : Record) : Roster := { s.ros with table := s.ros.table.set slot (some x) }
    let offer (a : Nat) : Entry := answered r 61 0x83
      (offerBytes r.uid a (if rd.pinned then 0 else s.cfg.leaseTime) s.cfg.offerTime s.ctl.epoch.toNat)
    let refusal (reason : Byte) : Entry := answered r 61 0x82 (uidBytes r.uid ++ [reason])
    ∃ t, Runs (.join b) s t ∧
      match rd.state with
      | .reserved =>
        match assign (if rd.reserved then rd.address else none) r.uid (natAt r.payload 7) (s.ros.free, s.ros.hold) with
        | some (a, free, hold) =>
          t = { s with
            rxq := rest
            ros := { record { rd with
                state := .offered, address := some a, remaining := some s.cfg.offerTime, cls := cls } with
              free := free, hold := hold }
            cn := s.cn.marked slot
            txq := s.txq ++ [offer a] }
        | none =>
          t = { s with
            rxq := rest
            ros := record { rd with cls := cls }
            cn := s.cn.noticed 2
            txq := s.txq ++ [refusal 3] }
      | .offered =>
        t = { s with
          rxq := rest
          ros := record { rd with remaining := some s.cfg.offerTime, cls := cls }
          txq := s.txq ++ [offer (rd.address.getD 0)] }
      | .bound | .lapsed =>
        t = { s with
          rxq := rest
          ros := record { rd with state := .offered, remaining := some s.cfg.offerTime, cls := cls }
          cn := s.cn.marked slot
          txq := s.txq ++ [offer (rd.address.getD 0)] }
      | .evicting => t = { s with rxq := rest, ros := record { rd with cls := cls }, txq := s.txq ++ [refusal 13] }
      | .barred => t = { s with rxq := rest, ros := record { rd with cls := cls }, txq := s.txq ++ [refusal 2] }

/-- R35, R36, R75 to R80: a JOIN whose UID has no record, under each policy. -/
def Obligations.JoinOfAnUnknownUid : Prop :=
  ∀ (b : Bool) (r : Request) (rest : List Request) (s : State), Served b 0x01 r rest s → s.findUid r.uid = none →
    let p := natAt r.payload 7
    let item : ApqItem :=
      { uid := r.uid, cls := byteAt r.payload 6, preferred := if 1 ≤ p ∧ p ≤ 60 then some p else none,
        remaining := s.cfg.approveTime }
    let unqueued := s.ros.apq.eraseP fun i => i.uid == r.uid
    let queued := ∃ i ∈ s.ros.apq, i.uid = r.uid
    let refusal (reason : Byte) : Entry := answered r 61 0x82 (uidBytes r.uid ++ [reason])
    let pending : Entry := answered r 61 0x81 (uidBytes r.uid ++ [2, byte (s.cfg.beaconPeriod / 10)])
    ∃ t, Runs (.join b) s t ∧
      match s.cfg.policy with
      | .openAll =>
        match s.vacantSlot, assign none r.uid p (s.ros.free, s.ros.hold) with
        | some slot, some (a, free, hold) =>
          t = { s with
            rxq := rest
            ros := { s.ros with
              table := s.ros.table.set slot (some
                { state := .offered, origin := .line, uid := r.uid, address := some a, reserved := false,
                  pinned := false, remaining := some s.cfg.offerTime, cls := byteAt r.payload 6, binds := 0,
                  conflicts := 0, groups := [], label := [] })
              free := free, hold := hold, apq := unqueued }
            cn := s.cn.marked slot
            txq := s.txq ++ [answered r 61 0x83
              (offerBytes r.uid a s.cfg.leaseTime s.cfg.offerTime s.ctl.epoch.toNat)] }
        | _, _ => t = { s with rxq := rest, cn := s.cn.noticed 2, txq := s.txq ++ [refusal 3] }
      | .approve =>
        (queued → t = { s with
          rxq := rest
          ros := { s.ros with apq := s.ros.apq.map fun i => if i.uid = r.uid then item else i }
          txq := s.txq ++ [pending] }) ∧
        (¬ queued → s.ros.apq.length < 8 → t = { s with
          rxq := rest
          ros := { s.ros with apq := s.ros.apq ++ [item] }
          cn := s.cn.noticed 0
          txq := s.txq ++ [pending] }) ∧
        (¬ queued → 8 ≤ s.ros.apq.length → t = { s with rxq := rest, txq := s.txq ++ [refusal 4] })
      | .closed =>
        t = { s with rxq := rest, ros := { s.ros with apq := unqueued }, txq := s.txq ++ [refusal 1] }

/-- R29, R38 to R45: a CONFIRM or a RENEW of the holder of its source address, in each active state; and a CONFIRM from an
address that no record holds, or that a RESERVED record of its UID holds, which is refused NOT_BOUND. -/
def Obligations.ConfirmAndRenewOfTheHolder : Prop :=
  (∀ (b : Bool) (c : Instr) (code : Byte) (r : Request) (rest : List Request) (s : State) (slot : Nat) (rd : Record),
    (c = .confirm b ∧ code = 0x02 ∨ c = .renew b ∧ code = 0x03) →
    Served b code r rest s → s.findAddr r.source = some (slot, rd) → rd.uid = r.uid →
    let record (x : Record) : Roster := { s.ros with table := s.ros.table.set slot (some x) }
    let lease := if rd.pinned then none else some s.cfg.leaseTime
    let ack : Entry := answered r r.source 0x80 (bindingBytes (lease.getD 0) rd.groups s.ctl.epoch.toNat)
    ∃ t, Runs c s t ∧
      (rd.state = .offered → t = { s with
        rxq := rest
        ros := record { rd with state := .bound, remaining := lease, binds := min (rd.binds + 1) 255 }
        cn := s.cn.marked slot
        txq := s.txq ++ [ack] }) ∧
      (rd.state = .bound → t = { s with
        rxq := rest, ros := record { rd with remaining := lease }, txq := s.txq ++ [ack] }) ∧
      (rd.state = .lapsed → t = { s with
        rxq := rest
        ros := record { rd with state := .bound, remaining := lease }
        cn := s.cn.marked slot
        txq := s.txq ++ [ack] }) ∧
      (rd.state = .evicting → t = { s with rxq := rest, txq := s.txq ++ [answered r r.source 0x82 [6]] })) ∧
  ∀ (b : Bool) (r : Request) (rest : List Request) (s : State), Served b 0x02 r rest s →
    (s.findAddr r.source = none ∨
      ∃ slot rd, s.findAddr r.source = some (slot, rd) ∧ rd.uid = r.uid ∧ rd.state = .reserved) →
    Runs (.confirm b) s { s with rxq := rest, txq := s.txq ++ [answered r r.source 0x82 [5]] }

/-- R46 to R49: adoption by a RENEW from an address that no record holds, or that a RESERVED record of its UID holds. -/
def Obligations.RenewAdopts : Prop :=
  ∀ (b : Bool) (r : Request) (rest : List Request) (s : State), Served b 0x03 r rest s →
    (s.findAddr r.source = none ∨
      ∃ slot rd, s.findAddr r.source = some (slot, rd) ∧ rd.uid = r.uid ∧ rd.state = .reserved) →
    let refused (reason : Byte) : State :=
      { s with rxq := rest, txq := s.txq ++ [answered r r.source 0x82 [reason]] }
    let bound (slot : Nat) (rd : Record) (free : List Nat) (hold : List HoldItem) : State :=
      { s with
        rxq := rest
        ros := { s.ros with
          table := s.ros.table.set slot (some { rd with
            state := .bound, address := some r.source, binds := min (rd.binds + 1) 255,
            remaining := if rd.pinned then none else some s.cfg.leaseTime })
          free := free, hold := hold }
        cn := s.cn.marked slot
        txq := s.txq ++ [answered r r.source 0x80
          (bindingBytes (if rd.pinned then 0 else s.cfg.leaseTime) rd.groups s.ctl.epoch.toNat)] }
    ∃ t, Runs (.renew b) s t ∧
      if s.cfg.adoption = false then t = refused 5
      else
        match s.findUid r.uid with
        | some (slot, rd) =>
          (rd.state = .reserved → rd.reserved = true → rd.address = some r.source →
            t = bound slot rd s.ros.free s.ros.hold) ∧
          (rd.state = .reserved → rd.reserved = true → rd.address ≠ some r.source → t = refused 5) ∧
          (rd.state = .reserved → rd.reserved = false →
            match claim r.source r.uid (s.ros.free, s.ros.hold) with
            | some (free, hold) => t = bound slot rd free hold
            | none => t = refused 5) ∧
          (rd.state = .barred → t = refused 2) ∧
          (rd.state.active = true → t = refused 5)
        | none =>
          match s.cfg.policy, s.vacantSlot, claim r.source r.uid (s.ros.free, s.ros.hold) with
          | .openAll, some slot, some (free, hold) =>
            t = { s with
              rxq := rest
              ros := { s.ros with
                table := s.ros.table.set slot (some
                  { state := .bound, origin := .line, uid := r.uid, address := some r.source, reserved := false,
                    pinned := false, remaining := some s.cfg.leaseTime, cls := 0, binds := 1, conflicts := 0,
                    groups := [], label := [] })
                free := free, hold := hold, apq := s.ros.apq.eraseP fun i => i.uid == r.uid }
              cn := s.cn.marked slot
              txq := s.txq ++ [answered r r.source 0x80 (bindingBytes s.cfg.leaseTime [] s.ctl.epoch.toNat)] }
          | _, _, _ => t = refused 5

/-- R50 to R55: a LEAVE of the holder releases an OFFERED, BOUND or LAPSED record, and changes nothing where the record is
EVICTING or RESERVED or no record holds the address; the answer is a plain ACK each time. -/
def Obligations.LeaveReleases : Prop :=
  ∀ (b : Bool) (r : Request) (rest : List Request) (s : State), Served b 0x04 r rest s →
    let acked : State :=
      { s with rxq := rest, txq := s.txq ++ [answered r r.source 0x80 (be16 s.ctl.epoch.toNat)] }
    (s.findAddr r.source = none → Runs (.leave b) s acked) ∧
    ∀ slot rd, s.findAddr r.source = some (slot, rd) → rd.uid = r.uid →
      (rd.state = .offered ∨ rd.state = .bound ∨ rd.state = .lapsed →
        Runs (.leave b) s { acked with
          ros := s.ros.released s.cfg.holdTime slot rd r.source, cn := s.cn.marked slot }) ∧
      (rd.state = .evicting ∨ rd.state = .reserved → Runs (.leave b) s acked)

/-- R90 to R94: a CONFIRM, RENEW or LEAVE with another UID than the holder's is a conflict: it changes only the holder's
conflict count, its change bit, the latch, the counter and at the limit the notice, and is answered EVICT. -/
def Obligations.ConflictIsCountedAndAnswered : Prop :=
  ∀ (b : Bool) (c : Instr) (code : Byte) (r : Request) (rest : List Request) (s : State) (slot : Nat) (rd : Record),
    (c = .confirm b ∧ code = 0x02 ∨ c = .renew b ∧ code = 0x03 ∨ c = .leave b ∧ code = 0x04) →
    Served b code r rest s → s.findAddr r.source = some (slot, rd) → rd.uid ≠ r.uid → rd.conflicts ≤ 15 →
    let cn := s.cn.marked slot
    let cn := if rd.conflicts < 15 ∧ rd.conflicts + 1 = s.cfg.conflictLimit then cn.noticed 6 else cn
    Runs c s { s with
      rxq := rest
      ros := { s.ros with table := s.ros.table.set slot (some { rd with conflicts := min (rd.conflicts + 1) 15 }) }
      cn := { cn with
        latch := some (match s.cn.latch with
          | none => { address := r.source, slot := slot, intruder := r.uid, code := code, overflow := false }
          | some l => { l with overflow := true })
        counters := { s.cn.counters with conflicts := min (s.cn.counters.conflicts + 1) 65535 } }
      txq := s.txq ++ [answered r r.source 0xC1 (uidBytes r.uid ++ [1])] }

/-! ### Lookups and station group requests (6.3, 9.5) -/

/-- R163, R164, R165: what RESOLVE, IDENTIFY and INFO answer; nothing but RXQ and TXQ changes. -/
def Obligations.LookupsAnswer : Prop :=
  ∀ (b : Bool) (r : Request) (rest : List Request) (s : State),
    let acked (payload : List Byte) : State :=
      { s with rxq := rest, txq := s.txq ++ [answered r r.source 0x80 payload] }
    (ServedBound b 0x10 r rest s → Runs (.resolve b) s
      (if validUid r.uid = false then { s with rxq := rest, txq := s.txq ++ [answered r r.source 0x82 [14]] }
        else
          match s.findUid r.uid with
          | none => acked (uidBytes r.uid ++ [0, 0, 0])
          | some (_, rd) =>
            if rd.state = .bound ∨ rd.state = .lapsed then
              acked (uidBytes r.uid ++ [1, byte (stateNumber rd.state), byte (rd.address.getD 0)])
            else acked (uidBytes r.uid ++ [0, byte (stateNumber rd.state), 0]))) ∧
    (ServedBound b 0x11 r rest s → Runs (.identify b) s
      (let a := natAt r.payload 0
        if a < 1 ∨ 60 < a then acked [0]
        else
          match s.findAddr a with
          | none => acked [0]
          | some (_, rd) =>
            acked ([1, byte (stateNumber rd.state), byte a] ++ uidBytes rd.uid ++ [rd.cls]
              ++ (byte rd.groups.length :: rd.groups.map byte) ++ (byte rd.label.length :: rd.label)))) ∧
    (ServedBound b 0x13 r rest s → Runs (.info b) s
      (acked (be16 s.ctl.epoch.toNat ++ [byte (policyNumber s.cfg.policy)] ++ be16 s.cfg.leaseTime
        ++ [byte ((occupied s.ros.table).countP fun rd => rd.state == .bound), byte s.ros.free.length,
          byte s.cfg.joinSlots])))

/-- R109, R115, R116: SUBSCRIBE and UNSUBSCRIBE for the record that holds the source, by the first condition that
applies; the group ACK carries the record's groups as they stand afterwards. -/
def Obligations.SubscribeAndUnsubscribe : Prop :=
  ∀ (b : Bool) (r : Request) (rest : List Request) (s : State) (slot : Nat) (rd : Record),
    s.findAddr r.source = some (slot, rd) →
    let g := natAt r.payload 0
    let members := (s.group g).members
    let refused (reason : Byte) : State :=
      { s with rxq := rest, txq := s.txq ++ [answered r r.source 0x82 [reason]] }
    let acked (groups : List Nat) : State :=
      { s with rxq := rest, txq := s.txq ++ [answered r r.source 0x80 (byte groups.length :: groups.map byte)] }
    let member (groups members : List Nat) : State :=
      { acked groups with
        ros := { s.ros with
          table := s.ros.table.set slot (some { rd with groups := groups })
          groups := s.ros.groups.modify g fun x => { x with members := members } }
        cn := s.cn.marked slot }
    (ServedBound b 0x20 r rest s → Runs (.subscribe b) s
      (if 15 < g then refused 9
        else if (s.group g).isOpen = false then refused 11
        else if slot ∈ members then acked rd.groups
        else if 4 ≤ rd.groups.length then refused 12
        else if 24 ≤ members.length then refused 10
        else member (rd.groups ++ [g]) (members ++ [slot]))) ∧
    (ServedBound b 0x21 r rest s → Runs (.unsubscribe b) s
      (if 15 < g then refused 9
        else if (s.group g).isOpen = false then refused 11
        else if slot ∉ members then acked rd.groups
        else member (rd.groups.erase g) (members.erase slot)))

/-- R117: GROUP LIST answers the open flag, the addresses of the BOUND and LAPSED members in member-list order, and the
count of the others, which with the listed ones make up the member count. -/
def Obligations.GroupListAnswers : Prop :=
  ∀ (b : Bool) (r : Request) (rest : List Request) (s : State), ServedBound b 0x12 r rest s →
    let g := natAt r.payload 0
    let isListed (slot : Nat) : Bool :=
      match s.recordAt slot with
      | some rd => rd.state == .bound || rd.state == .lapsed
      | none => false
    let address (slot : Nat) : Nat := ((s.recordAt slot).bind Record.address).getD 0
    let members := (s.group g).members
    let listed := (members.filter isListed).map address
    Runs (.groupList b) s
      (if 15 < g then { s with rxq := rest, txq := s.txq ++ [answered r r.source 0x82 [9]] }
        else { s with
          rxq := rest
          txq := s.txq ++ [answered r r.source 0x80 ((if (s.group g).isOpen then 1 else 0) :: byte listed.length
            :: listed.map byte ++ [byte (members.countP fun slot => !isListed slot)])] })

/-! ### Time, expiries (chapters 3, 4, 5) -/

/-- R59, R60, R122, R123, R139, R146, R147, R196: what the passing of time changes, in the model's line time (log entries
1, 2, 17 and 29). In reset only line time moves. Outside it the start-up interval ends at tSTART at the latest; in RUNNING
the roster clock and the beacon timer run, each second completed lowers every running timer by 1, none below 0, and a
beacon period completed makes a beacon due; in HELD they stand still; at sample 9 of position 0 a valid start moves START
to DATA, where the bits of the positions passed are received; at the end of a character whose echo passed the next one
starts without a gap. Everything else stays. -/
def Obligations.TimeMovesTheClocks : Prop :=
  ∀ (d : Nat) (s : State),
    (s.inReset = true → s.advance d = { s with now := s.now + d }) ∧
    (s.inReset = false →
      let t := s.advance d
      let now := s.now + d
      t = { s with
        now := now, startUp := t.startUp, clk := t.clk, ros := t.ros
        lrx := { s.lrx with chr := t.lrx.chr, bits := t.lrx.bits }
        ltx := { s.ltx with state := t.ltx.state, beaconPending := t.ltx.beaconPending } } ∧
      t.startUp = (s.startUp && decide (now < 29491)) ∧
      (s.ctl.mode = .held → t.clk = s.clk ∧ t.ros = s.ros ∧ t.ltx.beaconPending = s.ltx.beaconPending) ∧
      (s.ctl.mode = .running →
        let seconds := (s.clk.phase + d) / 14745600
        let next := 147456 * (s.cfg.beaconPeriod / 10)
        t.clk.phase = (s.clk.phase + d) % 14745600 ∧
        t.ros = { s.ros with
          table := s.ros.table.map (Option.map fun r => { r with remaining := r.remaining.map (· - seconds) })
          hold := s.ros.hold.map fun i =>
            { i with remaining := i.remaining - seconds, overdue := i.overdue + (seconds - i.remaining) }
          apq := s.ros.apq.map fun i => { i with remaining := i.remaining - seconds } } ∧
        (s.clk.beacon = none → t.clk.beacon = none ∧ t.ltx.beaconPending = s.ltx.beaconPending) ∧
        ∀ b, s.clk.beacon = some b →
          (b.elapsed + d < b.period →
            t.clk.beacon = some { b with elapsed := b.elapsed + d } ∧ t.ltx.beaconPending = s.ltx.beaconPending) ∧
          (b.period ≤ b.elapsed + d →
            t.clk.beacon = some { elapsed := (b.elapsed + d - b.period) % next, period := next } ∧
            t.ltx.beaconPending = true)) ∧
      (s.lrx.chr = .waiting → t.lrx = s.lrx) ∧
      (∀ e w,
        let decision := e + 8 * samplePeriods s.cfg.lineRate
        let data : Lrx := { s.lrx with
          chr := .data e w, bits := receivedBits w (min ((now - decision) / (16 * samplePeriods s.cfg.lineRate)) 9) }
        (s.lrx.chr = .start e w →
          (majority w 0 = false → decision ≤ now → t.lrx = data) ∧
          (majority w 0 = true ∨ now < decision → t.lrx = s.lrx)) ∧
        (s.lrx.chr = .data e w → t.lrx = data)) ∧
      (∀ a, s.ltx.state = .sending a → a.echo = some true → a.index + 1 < a.bytes.length → a.abortAtEnd = false →
        a.drive.start + 11 * a.drive.bit ≤ now →
        t.ltx.state = .sending { a with
          index := a.index + 1, echo := none
          drive := { byte := a.bytes.getD (a.index + 1) 0, mark := false, start := a.drive.start + 11 * a.drive.bit,
                     bit := tBit s.cfg.lineRate } }) ∧
      (∀ a, s.ltx.state = .sending a → (a.echo ≠ some true ∨ a.bytes.length ≤ a.index + 1 ∨ a.abortAtEnd = true ∨
          now < a.drive.start + 11 * a.drive.bit) → t.ltx.state = .sending a) ∧
      ((∀ a, s.ltx.state ≠ .sending a) → t.ltx.state = s.ltx.state))

/-- R59, R60: in RUNNING CLKIN runs to the end of the second: the second event lowers every running timer by 1, none below
0, and the phase starts again [log 2]; in HELD none is raised. -/
def Obligations.SecondEventLowersEveryTimer : Prop :=
  ∀ s : State, s.inReset = false →
    (s.ctl.mode = .running → s.clk.phase < 14745600 →
      let base := s.advance (14745600 - s.clk.phase)
      Runs .secondEvent s base ∧ base.clk.phase = 0 ∧
      base.ros = { s.ros with
        table := s.ros.table.map (Option.map fun r => { r with remaining := r.remaining.map (· - 1) })
        hold := s.ros.hold.map fun i =>
          if i.remaining = 0 then { i with overdue := i.overdue + 1 } else { i with remaining := i.remaining - 1 }
        apq := s.ros.apq.map fun i => { i with remaining := i.remaining - 1 } }) ∧
    (s.ctl.mode = .held → Runs .secondEvent s s)

/-- R24, R64 to R67, R81, R99: a pending lease expiry lapses the record, or with GRACE_TIME 0 releases it; a pending grace
or offer expiry and a pending eviction completion release the record; a pending hold-down expiry takes the item out from
wherever it stands and appends its address at the free list's tail, with no change bit, those of an earlier second before
those of a later one; a pending approval expiry takes the APQ item out and sets APPROVAL_EXPIRED. A hold-down expiry whose
turn has not come changes nothing (log entry 3). -/
def Obligations.ExpiriesAndCompletionsTakeEffect : Prop :=
  (∀ (slot : Nat) (s : State) (rd : Record) (a : Nat), s.inReset = false → s.recordAt slot = some rd →
    rd.address = some a →
    let released : State := { s with ros := s.ros.released s.cfg.holdTime slot rd a, cn := s.cn.marked slot }
    (rd.state = .bound → rd.remaining = some 0 → Runs (.leaseExpiry slot) s
      (if s.cfg.graceTime = 0 then released
        else { s with
          ros := { s.ros with table := s.ros.table.set slot (some { rd with
            state := .lapsed, remaining := some s.cfg.graceTime }) }
          cn := s.cn.marked slot })) ∧
    (rd.state = .lapsed → rd.remaining = some 0 → Runs (.graceExpiry slot) s released) ∧
    (rd.state = .offered → rd.remaining = some 0 → Runs (.offerExpiry slot) s released) ∧
    (rd.state = .evicting → slot ∈ s.completions →
      Runs (.evictionCompletion slot) s { released with completions := s.completions.erase slot })) ∧
  (∀ (s : State) (before after : List HoldItem) (i : HoldItem), s.inReset = false →
    s.ros.hold = before ++ i :: after → i.remaining = 0 → (∀ j ∈ before, j.address ≠ i.address) →
    (∀ j ∈ s.ros.hold, j.remaining = 0 → j.overdue ≤ i.overdue) →
    Runs (.holdDownExpiry i.address) s
      { s with ros := { s.ros with hold := before ++ after, free := s.ros.free ++ [i.address] } }) ∧
  (∀ (s : State) (a : Nat), s.inReset = false →
    (∀ i ∈ s.ros.hold, i.address = a → i.remaining = 0 → ∃ j ∈ s.ros.hold, j.remaining = 0 ∧ i.overdue < j.overdue) →
    Runs (.holdDownExpiry a) s s) ∧
  (∀ (s : State) (before after : List ApqItem) (i : ApqItem), s.inReset = false →
    s.ros.apq = before ++ i :: after → i.remaining = 0 → (∀ j ∈ before, j.uid ≠ i.uid) →
    Runs (.approvalExpiry i.uid) s { s with ros := { s.ros with apq := before ++ after }, cn := s.cn.noticed 1 })

/-! ### Pin reset and start-up (12.1) -/

/-- R27, R59, R74, R108, R132, R136, R147, R151, R167, R170, R183, R188, R189, R193, R196, R197: pin reset at any point cuts
a transmission where it stands, discards a command or a result and withdraws every completion, with SDO released, INT_N
and TXD at 1 and DE deasserted; and every store's contents after the release, with the mode that the HOLD strap selects.
START_UP_END ends the start-up interval, 29 491 CLKIN periods (2 ms) after the release at the latest, and a transaction
of any code whose CS_N falls inside it is ignored whole. The instant at which START_UP_END comes is its operand (log entry
17). Line time starts at 0 and the SDO record empty (log entries 1 and 9), and the line is taken to have read 0 (log entry
14); the queue of waiting commands is the model's own and no rule empties it (log entry 21); the stores that pin reset
leaves as they were stand unseen until the release (log entry 25). -/
def Obligations.PinResetReleaseAndStartUp : Prop :=
  (∀ (dt : Nat) (s : State),
    let base := s.advance dt
    let t : State := { base with
      inReset := true, ltx := { state := .ready, tail := none, beaconPending := base.ltx.beaconPending }
      completions := []
      hp := { s.hp with txn := none }, cu := .idle }
    Runs (.pinReset dt) s t ∧ t.sdoDriven = false ∧ t.intN = true ∧ t.txd = true ∧ t.de = false) ∧
  (∀ (dt : Nat) (s : State), s.inReset = false → s.startUp = true →
    Runs (.startUpEnd dt) s { s.advance (min dt (29491 - s.now)) with startUp := false } ∧
    (s.now + dt < 29491 → s.hp.txn = none → ∀ (bytes : List Byte) (phase : PortPhase),
      phase = .whole bytes ∨ phase = .select ∨ phase = .code ∨ phase = .clock bytes ∨ phase = .deselect →
      Runs (.status dt phase) s (s.advance dt) ∧ Runs (.submit dt phase) s (s.advance dt) ∧
      Runs (.fetch dt phase) s (s.advance dt) ∧ Runs (.changes dt phase) s (s.advance dt) ∧
      Runs (.conflictTransaction dt phase) s (s.advance dt) ∧
      ∀ code : Byte, code.toNat = 0 ∨ 5 < code.toNat → Runs (.unknownTransaction dt code phase) s (s.advance dt))) ∧
  ∀ (dt : Nat) (strap : Bool) (s : State), s.inReset = true →
    Runs (.resetRelease dt strap) s
      { now := 0, inReset := false, startUp := true
        ctl := { mode := if strap then .held else .running, epoch := 0 }
        clk := { phase := 0, beacon := if strap then none else some { elapsed := 0, period := 3686400 } }
        cfg :=
          { leaseTime := 300, graceTime := 30, offerTime := 3, holdTime := 60, approveTime := 60, beaconPeriod := 250,
            joinSlots := 4, policy := .openAll, adoption := true, txAttempts := 3, conflictLimit := 4, lineRate := 4,
            noticeEnable := 0x1FF#9 }
        ros :=
          { table := List.replicate 64 none, free := (List.range 60).map (· + 1), hold := [], apq := [],
            groups := List.replicate 16 { isOpen := false, members := [] } }
        lrx := { chr := .waiting, bits := [], frm := .outside, sil := .awaitOne false, quiet := none }
        rxq := [], txq := []
        ltx := { state := .ready, tail := none, beaconPending := !strap }
        completions := [], hp := { txn := none, sdo := [], refused := false }, cu := .idle
        cn :=
          { changes := 0, marks := 0, notices := 0, noticeMarks := 0, latch := none
            counters :=
              { accepted := 0, crcErrors := 0, framing := 0, malformed := 0, overruns := 0, late := 0, abandons := 0,
                conflicts := 0 } }
        pending := s.pending }

/-! ### Reception (chapter 7) -/

/-- R122, R124, R125, R128, R139, R143: a start edge moves the assembler to START and holds the silence measure at 0;
the silence it ends has had its effects: past tGAP it truncated the frame in assembly, and BACKOFF ended when the
silence since the abort had reached tBACK(k). A false start returns the assembler to WAITING at sample 9 of position 0
and counts nothing; after it, after a framing error or a break the silence runs from the next sample reading 1, and no
start edge comes while RXD last read 0. Rests on log entries 2 (the instant comes with the command), 7 (a line silent
at the abort counts from the abort), 14 (where the own-frame span after a rate change ends, what RXD last read), 27
(the silence after a false start) and 29 (the samples come with the edge). -/
def Obligations.EdgesRestartTheSilence : Prop :=
  (∀ (dt : Nat) (w : CharWave) (s : State), s.inReset = false → s.lrx.chr = .waiting →
    let now := s.now + dt
    let base := s.advance dt
    let started (frm : FrameAsm) (quiet : Option Nat) : Lrx :=
      { chr := .start now w, bits := [], frm := frm, sil := .held, quiet := quiet }
    (∀ t0, s.lrx.sil = .since t0 →
      let truncated := 3 * tChar s.cfg.lineRate < now - t0
      Runs (.startEdge ⟨dt, w⟩) s { base with
        lrx := started (if truncated then .outside else s.lrx.frm) (match s.lrx.quiet with
          | some e => if max t0 e ≤ now then none else some e
          | none => none)
        ltx := match s.ltx.state with
          | .backoff k aborted =>
            if max t0 aborted + (2 + 4 * k) * tChar s.cfg.lineRate ≤ now then { base.ltx with state := .ready }
            else base.ltx
          | _ => base.ltx
        cn := match s.lrx.frm with
          | .assembling a => if truncated ∧ a.own = false then s.cn.malformedOnce else s.cn
          | _ => s.cn }) ∧
    (s.lrx.sil = .awaitOne true → Runs (.startEdge ⟨dt, w⟩) s { base with lrx := started s.lrx.frm s.lrx.quiet }) ∧
    (s.lrx.sil = .awaitOne false → Runs (.startEdge ⟨dt, w⟩) s s)) ∧
  (∀ (edge : Nat) (w : CharWave) (high : Bool) (s : State), s.inReset = false → s.lrx.chr = .start edge w →
    majority w 0 = true →
    Runs (.falseStart w high) s { s.advanceTo (edge + 8 * samplePeriods s.cfg.lineRate) with
      lrx := { s.lrx with
        chr := .waiting
        sil := if high then .since (edge + 9 * samplePeriods s.cfg.lineRate) else .awaitOne (w.s9.getLsbD 0) } }) ∧
  (∀ (dt : Nat) (last : Bool) (s : State), s.inReset = false → s.lrx.sil = .awaitOne last →
    Runs (.breakEnd dt) s { s.advance dt with
      lrx := { (s.advance dt).lrx with sil := .since (s.now + dt) } })

/-- R120, R123, R126, R130, R142: a character's bits are the majorities of its samples 7, 8 and 9; a marked character
begins a frame, an own frame while LTX sends; a station's frame it cuts short is counted; it goes to LTX as the echo; the
silence runs from its end, 11 bit times after its start edge. Rests on log entries 2, 13 (own is decided at sample 9 of
the stop bit), 14 (the span after a rate change), 15 (the cut frame counts by its own mark) and 29. -/
def Obligations.MarkedCharacterBeginsAFrame : Prop :=
  (∀ w : CharWave, waveStartValid w = !majority w 0 ∧ (∀ k < 8, (waveByte w).getLsbD k = majority w (k + 1)) ∧
    waveMark w = majority w 9 ∧ waveStop w = majority w 10) ∧
  ∀ (w : CharWave) (edge : Nat) (s : State), s.inReset = false → s.lrx.chr = .start edge w ∨ s.lrx.chr = .data edge w →
    Decides w true true →
    let base := s.advanceTo (edge + 168 * samplePeriods s.cfg.lineRate)
    Runs (.markedCharacter w) s { base with
      lrx :=
        { chr := .waiting, bits := receivedBits w 9, sil := .since (edge + tChar s.cfg.lineRate), quiet := s.lrx.quiet
          frm := .assembling
            { bytes := [waveByte w], declared := none, crc := crcOf [waveByte w]
              own := base.de || s.lrx.quiet.isSome } }
      ltx := base.ltx.hears (some (waveByte w, true)) base.now
      cn := match s.lrx.frm with
        | .assembling a => if a.own then s.cn else s.cn.malformedOnce
        | _ => s.cn }

/-- R120, R123, R126, R127, R142: an unmarked character is the next byte of the frame in assembly and enters its CRC up to
byte 4 + L, byte 4 declaring the length; outside a frame it is ignored without a count. Rests on log entries 2 and 29. -/
def Obligations.UnmarkedCharacterIsTheNextByte : Prop :=
  ∀ (w : CharWave) (edge : Nat) (s : State), s.inReset = false → s.lrx.chr = .start edge w ∨ s.lrx.chr = .data edge w →
    Decides w false true →
    let base := s.advanceTo (edge + 168 * samplePeriods s.cfg.lineRate)
    let heard (frm : FrameAsm) : State := { base with
      lrx :=
        { chr := .waiting, bits := receivedBits w 9, frm := frm, sil := .since (edge + tChar s.cfg.lineRate)
          quiet := s.lrx.quiet }
      ltx := base.ltx.hears (some (waveByte w, false)) base.now }
    (s.lrx.frm = .outside ∨ (∃ own, s.lrx.frm = .discarding own) → Runs (.unmarkedCharacter w) s (heard s.lrx.frm)) ∧
    ∀ a, s.lrx.frm = .assembling a →
      let bytes := a.bytes ++ [waveByte w]
      (a.bytes.length < 4 → a.declared = none →
        Runs (.unmarkedCharacter w) s
          (heard (.assembling { a with bytes := bytes, crc := crcByte a.crc (waveByte w) }))) ∧
      (a.bytes.length = 4 → (waveByte w).toNat ≤ 48 →
        Runs (.unmarkedCharacter w) s (heard (.assembling { a with
          bytes := bytes, declared := some (7 + (waveByte w).toNat), crc := crcByte a.crc (waveByte w) }))) ∧
      ∀ l, 4 < a.bytes.length → a.declared = some (7 + l) → a.bytes.length < 6 + l →
        Runs (.unmarkedCharacter w) s (heard (.assembling { a with
          bytes := bytes, crc := if a.bytes.length < 5 + l then crcByte a.crc (waveByte w) else a.crc }))

/-- R127, R128, R130: a length above 48 moves the frame assembler to DISCARDING and is counted; a silence past tGAP inside
a frame truncates it and is counted, and ends DISCARDING without a count; an own frame counts nothing. Rests on log
entries 2, 13 and 14 (a character that is handed on while DE is asserted, or in the span after a rate change, counts
nothing), 15 (which mark counts, and that DISCARDING keeps it) and 29. -/
def Obligations.MalformedAndTruncatedFrames : Prop :=
  (∀ (w : CharWave) (edge : Nat) (s : State) (a : Assembly), s.inReset = false →
    s.lrx.chr = .start edge w ∨ s.lrx.chr = .data edge w → Decides w false true → s.lrx.frm = .assembling a →
    a.bytes.length = 4 → 48 < (waveByte w).toNat →
    let base := s.advanceTo (edge + 168 * samplePeriods s.cfg.lineRate)
    Runs (.lengthMalformed w) s { base with
      lrx :=
        { chr := .waiting, bits := receivedBits w 9, frm := .discarding a.own, sil := .since (edge + tChar s.cfg.lineRate)
          quiet := s.lrx.quiet }
      ltx := base.ltx.hears (some (waveByte w, false)) base.now
      cn := if a.own || base.de || s.lrx.quiet.isSome then s.cn else s.cn.malformedOnce }) ∧
  (∀ (t0 : Nat) (s : State), s.inReset = false → s.lrx.chr = .waiting → s.lrx.sil = .since t0 →
    let base := s.advanceTo (t0 + 3 * tChar s.cfg.lineRate + 1)
    let outside : State := { base with lrx := { base.lrx with frm := .outside } }
    (∀ a, s.lrx.frm = .assembling a →
      Runs .frameGapTruncation s { outside with cn := if a.own then s.cn else s.cn.malformedOnce }) ∧
    ∀ own, s.lrx.frm = .discarding own → Runs .frameGapTruncation s outside)

/-- R129 to R133: the character that completes a frame: the CRC, type and source checks in their order, each counted
once and not for an own frame; then a request to 0 enters RXQ with its end time and deadline, or is refused as an
overrun, and any other frame is passed over. A character that ends in an attempt moves no counter, whatever comes of
its frame. Rests on log entries 2, 13 and 14 (which characters end in an attempt), 15 (a station's frame that such a
character completes is admitted uncounted), 29 and 30 (whether a window is open is asked at the hand-on). -/
def Obligations.CompleteFrameIsCheckedAndAdmitted : Prop :=
  ∀ (w : CharWave) (edge : Nat) (s : State) (a : Assembly), s.inReset = false →
    s.lrx.chr = .start edge w ∨ s.lrx.chr = .data edge w → Decides w false true → s.ReceptionLaw →
    s.lrx.frm = .assembling a → a.declared = some (a.bytes.length + 1) →
    let base := s.advanceTo (edge + 168 * samplePeriods s.cfg.lineRate)
    let finish := edge + tChar s.cfg.lineRate
    let heard : State := { base with
      lrx := { chr := .waiting, bits := receivedBits w 9, frm := .outside, sil := .since finish, quiet := s.lrx.quiet }
      ltx := base.ltx.hears (some (waveByte w, false)) base.now }
    let bytes := a.bytes ++ [waveByte w]
    let header := bytes.take (bytes.length - 2)
    let quiet := a.own || base.de || s.lrx.quiet.isSome
    let deadline := 24 * tChar s.cfg.lineRate + match s.ltx.state with
      | .window closing => if byteAt bytes 2 = 0x01 ∧ finish ≤ closing then closing else finish
      | _ => finish
    Runs (.frameReceived w) s
      (if be16 (crcOf header).toNat ≠ bytes.drop (bytes.length - 2) then
        { heard with cn := if quiet then s.cn else { s.cn with
          counters := { s.cn.counters with crcErrors := min (s.cn.counters.crcErrors + 1) 65535 } } }
      else if natAt bytes 0 / 64 = 3 ∨ 63 < natAt bytes 1 then
        { heard with cn := if quiet then s.cn else s.cn.malformedOnce }
      else if a.own ∨ natAt bytes 0 ≠ 0 then heard
      else if s.rxq.length < 4 then
        { heard with
          rxq := s.rxq ++ [
            { dest := 0, source := natAt bytes 1, code := byteAt bytes 2, tag := byteAt bytes 3,
              payload := header.drop 5, endTime := finish, deadline := deadline }]
          cn := if quiet then s.cn else { s.cn with
            counters := { s.cn.counters with accepted := min (s.cn.counters.accepted + 1) 65535 } } }
      else
        { heard with
          cn := Cn.noticed 3 (if quiet then s.cn else { s.cn with
            counters := { s.cn.counters with overruns := min (s.cn.counters.overruns + 1) 65535 } }) })

/-- R124, R130, R142: a stop bit decided as 0 is counted once unless the character belongs to an own frame or ends during
an attempt, abandons the frame, goes to LTX in the character's place, and the line is busy until RXD reads 1. Rests on log
entries 2, 13 (DE at sample 9 of the stop bit says whether it ends during an attempt), 14 (the span after a rate change,
what RXD last read), 15 (DISCARDING keeps the own-frame mark) and 29. -/
def Obligations.FramingErrorAbandonsTheFrame : Prop :=
  ∀ (w : CharWave) (edge : Nat) (s : State), s.inReset = false → s.lrx.chr = .start edge w ∨ s.lrx.chr = .data edge w →
    majority w 0 = false → majority w 10 = false →
    let base := s.advanceTo (edge + 168 * samplePeriods s.cfg.lineRate)
    let own := base.de || s.lrx.quiet.isSome || match s.lrx.frm with
      | .assembling a => a.own
      | .discarding own => own
      | .outside => false
    Runs (.framingError w) s { base with
      lrx :=
        { chr := .waiting, bits := receivedBits w 9, frm := .outside, sil := .awaitOne (w.s9.getLsbD 10)
          quiet := s.lrx.quiet }
      ltx := base.ltx.hears none base.now
      cn := if own then s.cn else { s.cn with
        counters := { s.cn.counters with framing := min (s.cn.counters.framing + 1) 65535 } } }

/-! ### Transmission (chapter 8) -/

/-- R121, R138, R139, R140, R147, R148, R204: at the instant READY and a silence of tTURN both hold, LTX starts the ANSWER
of the earliest deadline not passed, nearer the head between equals; with none, the OFFER or EVICT nearest the head; with
none, a pending beacon, built from the roster and configuration as they stand. A frame is its type and destination, source
0, code, tag, length and payload, and then the CRC over all of these, high byte first. First, R121's periods of CLKIN to a
sample at each LINE_RATE, 16 samples to a bit and 11 bits to a character. -/
def Obligations.AttemptStartsByTheChoice : Prop :=
  (List.range 7).map samplePeriods = [96, 48, 24, 16, 8, 4, 2] ∧
  (∀ rate, tBit rate = 16 * samplePeriods rate ∧ tChar rate = 11 * tBit rate) ∧
  ∀ (s : State) (t0 : Nat), s.inReset = false → s.ltx.state = .ready → s.ltx.tail = none → s.lrx.sil = .since t0 →
    let at' := max s.now (t0 + 2 * tChar s.cfg.lineRate)
    let base := s.advanceTo at'
    let layout (f : Frame) : List Byte :=
      let covered := [byte (64 * f.ftype + f.dest), 0, f.code, f.tag, byte f.payload.length] ++ f.payload
      covered ++ be16 (crcOf covered).toNat
    let sending (kind : AttemptKind) (f : Frame) : LtxState := .sending
      { kind := kind, bytes := layout f, index := 0, echo := none, abortAtEnd := false
        drive := { byte := (layout f).getD 0 0, mark := true, start := at', bit := tBit s.cfg.lineRate } }
    let starts (i : Nat) (e : Entry) : State := { base with
      txq := s.txq.set i { e with inAttempt := true }
      ltx := { base.ltx with state := sending .entry e.frame } }
    let startable (e : Entry) : Prop := ∃ d, e.kind = .answer d ∧ at' ≤ d
    (∀ i e d, s.txq[i]? = some e → e.kind = .answer d → at' ≤ d →
      (∀ j e' d', s.txq[j]? = some e' → e'.kind = .answer d' → at' ≤ d' → d < d' ∨ d = d' ∧ i ≤ j) →
      Runs .txAttemptStart s (starts i e)) ∧
    ((∀ e ∈ s.txq, ¬ startable e) →
      (∀ i e, s.txq[i]? = some e → (∀ d, e.kind ≠ .answer d) →
        (∀ j e', j < i → s.txq[j]? = some e' → ∃ d, e'.kind = .answer d) → Runs .txAttemptStart s (starts i e)) ∧
      ((∀ e ∈ s.txq, ∃ d, e.kind = .answer d) → base.ltx.beaconPending = true →
        Runs .txAttemptStart s { base with
          ltx :=
            { state := sending (.beacon s.cfg.joinSlots)
                { ftype := 2, dest := 63, code := 0xC0, tag := 0
                  payload := be16 s.ctl.epoch.toNat ++ [byte (policyNumber s.cfg.policy), byte s.cfg.joinSlots,
                    byte s.ros.free.length] ++ be16 s.cfg.leaseTime }
              tail := none, beaconPending := false } }))

/-- R141, R143, R144: an attempt whose check failed ends with its character. An entry late by then is removed and
counted late; else at TX_ATTEMPTS it is abandoned, counted and notified, an EVICT raising its completion; else it keeps
its place with one attempt more. A beacon is dropped. BACKOFF follows, its silence counted from the abort at the
earliest. Rests on log entries 2, 6 (the order of a deadline and an abort at one instant is an operand) and 7 (a line
silent at the abort counts from the abort). -/
def Obligations.AbortedAttempt : Prop :=
  ∀ (b : Bool) (s : State) (a : Attempt), s.inReset = false → s.ltx.state = .sending a →
    a.abortAtEnd = true ∨ a.echo ≠ some true →
    let finish := a.drive.start + 11 * a.drive.bit
    let base := s.advanceTo finish
    (a.kind ≠ .entry → Runs (.transmitAbort b) s { base with ltx := { base.ltx with state := .backoff 1 finish } }) ∧
    ∀ before after e, a.kind = .entry → s.txq = before ++ e :: after → e.inAttempt = true →
      (∀ e' ∈ before, e'.inAttempt = false) →
      let k := e.attempts + 1
      let ltx : Ltx := { base.ltx with state := .backoff k finish }
      let late := ∃ d, e.kind = .answer d ∧ (d < base.now ∨ d = base.now ∧ b = true)
      (late → Runs (.transmitAbort b) s { base with txq := before ++ after, ltx := ltx, cn := s.cn.lateOnce }) ∧
      (¬ late → s.cfg.txAttempts ≤ k → Runs (.transmitAbort b) s { base with
        txq := before ++ after
        ltx := ltx
        completions := match e.kind with
          | .evict slot => s.completions ++ [slot]
          | _ => s.completions
        cn := Cn.noticed 5 { s.cn with
          counters := { s.cn.counters with abandons := min (s.cn.counters.abandons + 1) 65535 } } }) ∧
      (¬ late → k < s.cfg.txAttempts → Runs (.transmitAbort b) s { base with
        txq := before ++ { e with attempts := k, inAttempt := false } :: after
        ltx := ltx })

/-- R145, R149: an attempt whose last echo passed leaves TXQ, an EVICT raising its completion, and LTX is READY; a complete
beacon opens a window of the join slots it carried, 16 tCHAR each. That both happen at the end of the last character, and
that line time runs to it, is the model's choice: log entries 2 and 13. -/
def Obligations.CompletedAttempt : Prop :=
  ∀ (s : State) (a : Attempt), s.inReset = false → s.ltx.state = .sending a → a.abortAtEnd = false →
    a.echo = some true → a.index + 1 = a.bytes.length →
    let finish := a.drive.start + 11 * a.drive.bit
    let base := s.advanceTo finish
    (∀ slots, a.kind = .beacon slots → Runs .transmitComplete s { base with
      ltx := { base.ltx with
        state := if slots = 0 then .ready else .window (finish + slots * (16 * tChar s.cfg.lineRate)) } }) ∧
    ∀ before after e, a.kind = .entry → s.txq = before ++ e :: after → e.inAttempt = true →
      (∀ e' ∈ before, e'.inAttempt = false) →
      Runs .transmitComplete s { base with
        txq := before ++ after
        ltx := { base.ltx with state := .ready }
        completions := match e.kind with
          | .evict slot => s.completions ++ [slot]
          | _ => s.completions }

/-- R138, R139, R141, R143, R146, R147, R149 to R151: a window ends at its closing instant, BACKOFF when the silence
after the abort reaches tBACK(k), a cut character 11 bit times after its start edge. An ANSWER not in an attempt is
removed unsent at its deadline, the earliest first and nearer the head between equals, counted late with ANSWER_LATE.
In RUNNING the completed beacon period sets beacon-pending and starts the next period at the BEACON_PERIOD then
standing. Rests on log entries 2 and 7 (a line silent at the abort counts from the abort). -/
def Obligations.TimedEventsOfTheTransmitter : Prop :=
  (∀ s : State, s.inReset = false →
    (∀ closing, s.ltx.state = .window closing →
      let base := s.advanceTo closing
      Runs .joinWindowClose s { base with ltx := { base.ltx with state := .ready } }) ∧
    (∀ k aborted t0, s.ltx.state = .backoff k aborted → s.lrx.sil = .since t0 →
      let base := s.advanceTo (max t0 aborted + (2 + 4 * k) * tChar s.cfg.lineRate)
      Runs .backoffEnd s { base with ltx := { base.ltx with state := .ready } }) ∧
    (∀ d, s.ltx.tail = some d →
      let base := s.advanceTo (d.start + 11 * d.bit)
      Runs .cutCharacterEnd s { base with ltx := { base.ltx with tail := none } })) ∧
  (∀ (s : State) (before after : List Entry) (e : Entry) (d : Nat), s.inReset = false →
    s.txq = before ++ e :: after → e.kind = .answer d → e.inAttempt = false →
    (∀ e' d', e' ∈ before → e'.kind = .answer d' → e'.inAttempt = false → d < d') →
    (∀ e' d', e' ∈ after → e'.kind = .answer d' → e'.inAttempt = false → d ≤ d') →
    Runs .answerDeadlinePassed s { s.advanceTo d with txq := before ++ after, cn := s.cn.lateOnce }) ∧
  ∀ (s : State) (b : BeaconTimer), s.inReset = false → s.ctl.mode = .running → s.clk.beacon = some b →
    let base := s.advance (b.period - b.elapsed)
    let next := 147456 * (s.cfg.beaconPeriod / 10)
    Runs .beaconDue s base ∧ base.ltx.beaconPending = true ∧
    base.clk.beacon = some { elapsed := (b.elapsed - b.period) % next, period := next }

/-! ### The host port (10.1, 10.2, 11.3, 11.5) -/

/-- R94, R168, R190, R195, R206, R209: the flags of the status byte, the conditions of INT_N with their enables, and the
levels of TXD, DE and SDO, in every state. DE is asserted, and TXD driven, for the character of the attempt being sent and
for the one at which an attempt was cut, until its end. -/
def Obligations.StatusByteAndPins : Prop :=
  ∀ s : State,
    s.statusByte.getLsbD 7 = (s.ctl.mode == .held) ∧
    (s.statusByte.getLsbD 6 = true ↔ ∃ code args, s.cu = .executing code args) ∧
    (s.statusByte.getLsbD 5 = true ↔ ∃ r, s.cu = .ready r) ∧ s.statusByte.getLsbD 4 = (s.cn.changes != 0) ∧
    s.statusByte.getLsbD 3 = (s.cn.notices != 0) ∧ s.statusByte.getLsbD 2 = s.cn.latch.isSome ∧
    s.statusByte.getLsbD 1 = s.hp.refused ∧ s.statusByte.getLsbD 0 = false ∧
    (s.intN = false ↔ s.inReset = false ∧
      ((∃ slot < 64, s.cn.changes.getLsbD slot = true) ∧ s.cfg.noticeEnable.getLsbD 7 = true ∨
        (∃ k < 7, s.cn.notices.getLsbD k = true ∧ s.cfg.noticeEnable.getLsbD k = true) ∨
        (∃ r, s.cu = .ready r) ∧ s.cfg.noticeEnable.getLsbD 8 = true ∨
        (∃ l, s.cn.latch = some l) ∧ s.cfg.noticeEnable.getLsbD 6 = true)) ∧
    s.driving = (match s.ltx.state with
      | .sending a => some a.drive
      | _ => s.ltx.tail) ∧
    (∀ d, s.driving = some d → s.de = true ∧
      let position := (s.now - d.start) / d.bit
      (position = 0 → s.txd = false) ∧
      (∀ k < 8, position = k + 1 → s.txd = d.byte.getLsbD k) ∧
      (position = 9 → s.txd = d.mark) ∧ (10 ≤ position → s.txd = true)) ∧
    (s.driving = none → s.de = false ∧ s.txd = true) ∧
    (s.sdoDriven = true ↔ ∃ t, s.hp.txn = some t)

/-- R167, R168, R169: STATUS sends the status byte captured at CS_N falling and then the status byte as it stands, byte
for byte, within one transaction too; a transaction with any other code sends zero bytes; neither changes anything. -/
def Obligations.StatusAndUnknownTransactions : Prop :=
  ∀ (dt : Nat) (s : State), s.inReset = false → s.startUp = false →
    let port (txn : Option Txn) (sdo : List Byte) : State :=
      { s.advance dt with hp := { txn := txn, sdo := sdo, refused := s.hp.refused } }
    let fresh (code : Option Byte) : Txn := { code := code, ins := [], plan := [], loaded := false }
    let unknown (code : Byte) : Prop := code.toNat = 0 ∨ 5 < code.toNat
    (s.hp.txn = none →
      (∀ bytes, Runs (.status dt (.whole bytes)) s
        (port none (s.statusByte :: List.replicate bytes.length s.statusByte))) ∧
      Runs (.status dt .select) s (port (some (fresh none)) [s.statusByte]) ∧
      ∀ code, unknown code →
        (∀ bytes, Runs (.unknownTransaction dt code (.whole bytes)) s
          (port none (s.statusByte :: List.replicate bytes.length 0))) ∧
        Runs (.unknownTransaction dt code .select) s (port (some (fresh none)) [s.statusByte])) ∧
    ∀ t, s.hp.txn = some t →
      (t.code = none → Runs (.status dt .code) s (port (some (fresh (some 0x01))) s.hp.sdo)) ∧
      (t.code = some 0x01 →
        (∀ bytes, Runs (.status dt (.clock bytes)) s
          (port (some { t with ins := t.ins ++ bytes }) (s.hp.sdo ++ List.replicate bytes.length s.statusByte))) ∧
        Runs (.status dt .deselect) s (port none s.hp.sdo)) ∧
      ∀ code, unknown code →
        (t.code = none → Runs (.unknownTransaction dt code .code) s (port (some (fresh (some code))) s.hp.sdo)) ∧
        (t.code = some code →
          (t.plan = [] → ∀ bytes, Runs (.unknownTransaction dt code (.clock bytes)) s
            (port (some { t with ins := t.ins ++ bytes }) (s.hp.sdo ++ List.replicate bytes.length 0))) ∧
          Runs (.unknownTransaction dt code .deselect) s (port none s.hp.sdo))

/-- R170, R171, R172: a SUBMIT cut short has no effect; a complete one in IDLE is accepted, clears SUBMIT_REFUSED and puts
the command in the slot, or BAD_COMMAND in the result buffer when it fails the check; in any other state it is refused
and sets SUBMIT_REFUSED. Zero bytes go out after the status byte. In flight nothing is decided before CS_N rises. -/
def Obligations.SubmitIsDecidedAtTheRiseOfCsN : Prop :=
  ∀ (dt : Nat) (s : State), s.inReset = false → s.startUp = false →
    let base := s.advance dt
    let decided (bytes sdo : List Byte) : State :=
      let n := natAt bytes 1
      let code := byteAt bytes 0
      let args := (bytes.drop 2).take n
      let ended (refused : Bool) : State := { base with hp := { txn := none, sdo := sdo, refused := refused } }
      if bytes.length < 2 ∨ bytes.length < 2 + n then ended s.hp.refused
      else if s.cu = .idle then
        if commandOk code args then { ended false with cu := .executing code args }
        else (ended false).resulted .badCommand []
      else ended true
    (s.hp.txn = none →
      (∀ bytes, Runs (.submit dt (.whole bytes)) s (decided bytes (s.statusByte :: List.replicate bytes.length 0))) ∧
      Runs (.submit dt .select) s { base with
        hp := { s.hp with
          txn := some { code := none, ins := [], plan := [], loaded := false }, sdo := [s.statusByte] } }) ∧
    ∀ t, s.hp.txn = some t →
      (t.code = none →
        Runs (.submit dt .code) s { base with
          hp := { s.hp with txn := some { code := some 0x02, ins := [], plan := [], loaded := false } } } ∧
        Runs (.submit dt .deselect) s { base with hp := { s.hp with txn := none } }) ∧
      (t.code = some 0x02 →
        (t.plan = [] → ∀ bytes, Runs (.submit dt (.clock bytes)) s { base with
          hp := { s.hp with
            txn := some { t with ins := t.ins ++ bytes }, sdo := s.hp.sdo ++ List.replicate bytes.length 0 } }) ∧
        Runs (.submit dt .deselect) s (decided t.ins s.hp.sdo))

/-- R172, R179, R181, R183: which commands pass the command unit's check: the codes of the table, each with its argument
length; PROVISION and EDIT with the length their own fields give, CONFIGURE with whole pairs; at most 48 bytes. -/
def Obligations.CommandUnitCheck : Prop :=
  (∀ (code : Byte) (n : Nat) (args : List Byte),
    (code.toNat, n) ∈ [(0x10, 1), (0x11, 6), (0x12, 1), (0x13, 3), (0x22, 1), (0x23, 1), (0x24, 6), (0x30, 6), (0x31, 7),
      (0x32, 1), (0x40, 2), (0x41, 2), (0x42, 1), (0x43, 1), (0x44, 2), (0x51, 0), (0x52, 1), (0x53, 0), (0x54, 0),
      (0x60, 0), (0x61, 2), (0x62, 0)] → (commandOk code args = true ↔ args.length = n)) ∧
  (∀ (code : Byte) (args : List Byte),
    code.toNat ∉ [0x10, 0x11, 0x12, 0x13, 0x20, 0x21, 0x22, 0x23, 0x24, 0x30, 0x31, 0x32, 0x40, 0x41, 0x42, 0x43, 0x44,
      0x50, 0x51, 0x52, 0x53, 0x54, 0x60, 0x61, 0x62] → commandOk code args = false) ∧
  (∀ args : List Byte, commandOk 0x20 args = true ↔ args.length ≤ 48 ∧
    ∃ (fixed label groups : List Byte) (n m : Byte), args = fixed ++ n :: label ++ m :: groups ∧
      fixed.length = 8 ∧ label.length = n.toNat ∧ groups.length = m.toNat) ∧
  (∀ args : List Byte, commandOk 0x21 args = true ↔ args.length ≤ 48 ∧
    ∃ (slot sel : Byte) (pin reserve label : List Byte), args = slot :: sel :: pin ++ reserve ++ label ∧
      pin.length = (if sel.getLsbD 1 then 1 else 0) ∧ reserve.length = (if sel.getLsbD 2 then 1 else 0) ∧
      if sel.getLsbD 0 then ∃ (n : Byte) (bytes : List Byte), label = n :: bytes ∧ bytes.length = n.toNat
      else label = []) ∧
  ∀ args : List Byte, commandOk 0x50 args = true ↔ args.length ≤ 48 ∧ args.length % 3 = 0

/-- R173: FETCH sends the result standing at the end of byte 0, code, length and payload, and empties the buffer when it is
read whole; cut short it keeps the result; with no result it sends 0xFF and length 0 and changes nothing. In flight, the
end of byte 0 fixes what is sent, further bytes send it, and the rise of CS_N empties the buffer or not. -/
def Obligations.FetchReadsTheResult : Prop :=
  ∀ (dt : Nat) (s : State), s.inReset = false → s.startUp = false →
    let base := s.advance dt
    let out (r : Result) : List Byte := byte (resultNumber r.code) :: byte r.payload.length :: r.payload
    (s.hp.txn = none →
      (∀ bytes : List Byte,
        let n := bytes.length
        let port (out : List Byte) : State := { base with
          hp :=
            { txn := none, sdo := s.statusByte :: (List.range n).map fun i => out.getD i 0, refused := s.hp.refused } }
        (∀ r, s.cu = .ready r → Runs (.fetch dt (.whole bytes)) s
          (if 2 + r.payload.length ≤ n then { port (out r) with cu := .idle } else port (out r))) ∧
        ((∀ r, s.cu ≠ .ready r) → Runs (.fetch dt (.whole bytes)) s (port [0xFF, 0]))) ∧
      Runs (.fetch dt .select) s { base with
        hp := { s.hp with
          txn := some { code := none, ins := [], plan := [], loaded := false }, sdo := [s.statusByte] } }) ∧
    ∀ t, s.hp.txn = some t →
      (t.code = none →
        let taken (plan : List Byte) (loaded : Bool) : State := { base with
          hp := { s.hp with txn := some { code := some 0x03, ins := [], plan := plan, loaded := loaded } } }
        (∀ r, s.cu = .ready r → Runs (.fetch dt .code) s (taken (out r) true)) ∧
        ((∀ r, s.cu ≠ .ready r) → Runs (.fetch dt .code) s (taken [0xFF, 0] false)) ∧
        Runs (.fetch dt .deselect) s { base with hp := { s.hp with txn := none } }) ∧
      (t.code = some 0x03 →
        (∀ bytes, Runs (.fetch dt (.clock bytes)) s { base with
          hp := { s.hp with
            txn := some { t with ins := t.ins ++ bytes }
            sdo := s.hp.sdo ++ (List.range bytes.length).map fun i => t.plan.getD (t.ins.length + i) 0 } }) ∧
        Runs (.fetch dt .deselect) s { base with
          hp := { s.hp with txn := none }
          cu := if t.loaded = true ∧ t.plan.length ≤ t.ins.length then .idle else s.cu })

/-- R95, R191, R192, R206: CHANGES reports the change set and the notices, and when 10 bytes were counted clears what it
reported; cut short it clears nothing. In flight, the end of byte 0 takes the snapshot and marks it unrepeated, further
bytes send it, and the rise of CS_N clears exactly what still stands unrepeated. CONFLICT reports the latch and empties it
when 11 bytes were counted and the report showed it full; cut short, or having reported it empty, it leaves the latch as
it stands. In flight, the end of byte 0 takes the report, and whether it shows the latch full. -/
def Obligations.ChangesAndConflictClearWhatTheyReported : Prop :=
  ∀ (dt : Nat) (s : State), s.inReset = false → s.startUp = false →
    let base := s.advance dt
    let reported (n : Nat) (out : List Byte) : Port :=
      { txn := none, sdo := s.statusByte :: (List.range n).map fun i => out.getD i 0, refused := s.hp.refused }
    let selected : State := { base with
      hp := { s.hp with
        txn := some { code := none, ins := [], plan := [], loaded := false }, sdo := [s.statusByte] } }
    let coded (code : Byte) (plan : List Byte) (loaded : Bool) : Port :=
      { s.hp with txn := some { code := some code, ins := [], plan := plan, loaded := loaded } }
    let clocked (t : Txn) (bytes : List Byte) : State := { base with
      hp := { s.hp with
        txn := some { t with ins := t.ins ++ bytes }
        sdo := s.hp.sdo ++ (List.range bytes.length).map fun i => t.plan.getD (t.ins.length + i) 0 } }
    let changes := (List.range 8).map (fun k => s.cn.changes.extractLsb' (8 * k) 8) ++ [s.cn.notices.setWidth 8]
    let conflict := match s.cn.latch with
      | some l => [byte (if l.overflow then 3 else 1), byte l.address, byte l.slot] ++ uidBytes l.intruder ++ [l.code]
      | none => List.replicate 10 0
    (s.hp.txn = none →
      Runs (.changes dt .select) s selected ∧ Runs (.conflictTransaction dt .select) s selected ∧
      ∀ bytes : List Byte,
        let n := bytes.length
        Runs (.changes dt (.whole bytes)) s { base with
          hp := reported n changes
          cn := { s.cn with
            changes := if 9 ≤ n then 0 else s.cn.changes, notices := if 9 ≤ n then 0 else s.cn.notices
            marks := 0, noticeMarks := 0 } } ∧
        Runs (.conflictTransaction dt (.whole bytes)) s { base with
          hp := reported n conflict
          cn := { s.cn with latch := if 10 ≤ n then none else s.cn.latch } }) ∧
    ∀ t, s.hp.txn = some t →
      (t.code = none →
        Runs (.changes dt .code) s { base with
          hp := coded 0x04 changes false
          cn := { s.cn with marks := s.cn.changes, noticeMarks := s.cn.notices } } ∧
        Runs (.conflictTransaction dt .code) s { base with hp := coded 0x05 conflict s.cn.latch.isSome }) ∧
      (t.code = some 0x04 →
        (∀ bytes, Runs (.changes dt (.clock bytes)) s (clocked t bytes)) ∧
        Runs (.changes dt .deselect) s { base with
          hp := { s.hp with txn := none }
          cn := { s.cn with
            changes := if 9 ≤ t.ins.length then s.cn.changes &&& ~~~s.cn.marks else s.cn.changes
            notices := if 9 ≤ t.ins.length then s.cn.notices &&& ~~~s.cn.noticeMarks else s.cn.notices
            marks := 0, noticeMarks := 0 } }) ∧
      (t.code = some 0x05 →
        (∀ bytes, Runs (.conflictTransaction dt (.clock bytes)) s (clocked t bytes)) ∧
        Runs (.conflictTransaction dt .deselect) s { base with
          hp := { s.hp with txn := none }
          cn := { s.cn with latch := if t.loaded = true ∧ 10 ≤ t.ins.length then none else s.cn.latch } })

/-- R174: a command whose result is not DONE has an empty payload and changed nothing but the result buffer; only APPROVE
refused FULL may also have set POOL_EXHAUSTED. -/
def Obligations.FailedCommandChangesNothing : Prop :=
  ∀ (c : Instr) (s t : State) (r : Result), s.cu.busy = true → Runs c s t → t.cu = .ready r → r.code ≠ .done →
    r.payload = [] ∧
    (t = { s with cu := t.cu } ∨ c = .approve ∧ r.code = .full ∧ t = { s with cu := t.cu, cn := s.cn.noticed 2 })

/-! ### Commands that read (10.3, 10.6, 4.4, 6.2, 11.4) -/

/-- R175, R176, R177, R207, R208: READ ENTRY, FIND UID and FIND ADDRESS report the record image, or the address's place in
custody, and change nothing. -/
def Obligations.ReadingOneRecord : Prop :=
  ∀ s : State,
    let image (slot : Nat) (r : Record) : List Byte :=
      [byte slot, byte (match r.state with
          | .reserved => 1
          | .offered => 2
          | .bound => 3
          | .lapsed => 4
          | .evicting => 5
          | .barred => 6),
        byte ((if r.origin = .host then 1 else 0) + (if r.reserved then 2 else 0) + (if r.pinned then 4 else 0))]
      ++ uidBytes r.uid ++ [byte (r.address.getD 0)] ++ be16 (r.remaining.getD 0)
      ++ [r.cls, byte r.binds, byte r.conflicts] ++ byte r.groups.length :: r.groups.map byte
      ++ byte r.label.length :: r.label
    (∀ slot : Byte, Serving 0x10 [slot] s → Runs .readEntry s
      (if 63 < slot.toNat then s.resulted .badArgument []
      else
        match s.recordAt slot.toNat with
        | none => s.resulted .notFound []
        | some r => s.resulted .done (image slot.toNat r))) ∧
    (∀ args, Serving 0x11 args s →
      let u := uidAt args 0
      Runs .findUid s
        (if u = 0 ∨ u = BitVec.allOnes 48 then s.resulted .badArgument []
        else
          match s.findUid u with
          | none => s.resulted .notFound []
          | some (slot, r) => s.resulted .done (image slot r))) ∧
    ∀ a : Byte, Serving 0x12 [a] s →
      (a.toNat < 1 ∨ 60 < a.toNat → Runs .findAddress s (s.resulted .badArgument [])) ∧
      (1 ≤ a.toNat → a.toNat ≤ 60 → s.CustodyLaw →
        (∀ slot r, s.recordAt slot = some r → r.address = some a.toNat →
          Runs .findAddress s (s.resulted .done (0 :: image slot r))) ∧
        (∀ i, s.ros.free[i]? = some a.toNat → Runs .findAddress s (s.resulted .done [1, byte i])) ∧
        ∀ i item, s.ros.hold[i]? = some item → item.address = a.toNat →
          Runs .findAddress s (s.resulted .done ([2, byte i] ++ uidBytes item.uid ++ be16 item.remaining)))

/-- R86, R114, R178, R207: LIST, READ QUEUE and GROUP READ report what stands, in its order, and change nothing. -/
def Obligations.ReadingLists : Prop :=
  ∀ s : State, s.ros.table.length = 64 →
    (∀ filter start limit : Byte, Serving 0x13 [filter, start, limit] s →
      let hits := (List.range' start.toNat (64 - start.toNat)).filterMap fun slot =>
        (s.recordAt slot).bind fun r => if filter.getLsbD (stateNumber r.state) then some (slot, r) else none
      let taken := hits.take limit.toNat
      Runs .list s
        (if filter = 0 ∨ filter.getLsbD 0 = true ∨ filter.getLsbD 7 = true ∨ 63 < start.toNat ∨ limit.toNat < 1
            ∨ 6 < limit.toNat then s.resulted .badArgument []
        else s.resulted .done ([byte taken.length]
          ++ taken.flatMap (fun x =>
            [byte x.1, byte (stateNumber x.2.state), byte (x.2.address.getD 0)] ++ uidBytes x.2.uid)
          ++ [byte (match taken.getLast? with
            | some (slot, _) => if taken.length = limit.toNat ∧ slot < 63 then slot + 1 else 64
            | none => 64)]))) ∧
    (∀ start : Byte, Serving 0x32 [start] s →
      let items := (s.ros.apq.drop start.toNat).take 6
      Runs .readQueue s
        (if 7 < start.toNat then s.resulted .badArgument []
        else s.resulted .done ([byte s.ros.apq.length]
          ++ items.flatMap (fun i => uidBytes i.uid ++ [i.cls, byte (i.preferred.getD 0), byte i.remaining])
          ++ [byte (if items = [] ∨ s.ros.apq.length ≤ start.toNat + items.length then 8
            else start.toNat + items.length)]))) ∧
    ∀ g : Byte, Serving 0x43 [g] s →
      let members := (s.group g.toNat).members
      Runs .groupRead s
        (if 15 < g.toNat then s.resulted .badArgument []
        else s.resulted .done ([if (s.group g.toNat).isOpen then 1 else 0, byte members.length]
          ++ members.flatMap fun slot => be16 (1024 * slot + match s.recordAt slot with
            | some r => 128 * stateNumber r.state + r.address.getD 0
            | none => 0)))

/-- R185, R186, R194, R207: READ CONFIG reports the thirteen parameters in the order of their numbers, READ POOL custody,
READ COUNTERS the eight counters; they change nothing. CLEAR COUNTERS sets the eight counters to 0 and touches nothing
else. -/
def Obligations.ConfigPoolAndCounterReportsAndClear : Prop :=
  ∀ s : State,
    (Serving 0x51 [] s → Runs .readConfig s (s.resulted .done
      (be16 s.cfg.leaseTime ++ be16 s.cfg.graceTime ++ be16 s.cfg.offerTime ++ be16 s.cfg.holdTime
        ++ be16 s.cfg.approveTime ++ be16 s.cfg.beaconPeriod ++ be16 s.cfg.joinSlots
        ++ be16 (policyNumber s.cfg.policy) ++ be16 (if s.cfg.adoption then 1 else 0) ++ be16 s.cfg.txAttempts
        ++ be16 s.cfg.conflictLimit ++ be16 s.cfg.lineRate ++ be16 s.cfg.noticeEnable.toNat))) ∧
    (∀ part : Byte, Serving 0x52 [part] s → Runs .readPool s
      (if part = 0 then
        s.resulted .done [byte s.ros.free.length, byte (s.ros.free.headD 0), byte s.ros.hold.length]
      else if part = 1 then
        s.resulted .done ((s.ros.hold.take 8).flatMap fun i =>
          be16 (1024 * i.address + i.remaining) ++ uidBytes i.uid)
      else s.resulted .badArgument [])) ∧
    (Serving 0x53 [] s → Runs .readCounters s (s.resulted .done
      (be16 s.cn.counters.accepted ++ be16 s.cn.counters.crcErrors ++ be16 s.cn.counters.framing
        ++ be16 s.cn.counters.malformed ++ be16 s.cn.counters.overruns ++ be16 s.cn.counters.late
        ++ be16 s.cn.counters.abandons ++ be16 s.cn.counters.conflicts))) ∧
    (Serving 0x54 [] s → Runs .clearCounters s { s.resulted .done [] with
      cn := { s.cn with
        counters :=
          { accepted := 0, crcErrors := 0, framing := 0, malformed := 0, overruns := 0, late := 0, abandons := 0,
            conflicts := 0 } } })

/-! ### Commands that change the roster (chapters 4, 5, 6, 10) -/

/-- R16, R179, R180: PROVISION's checks in their order, and the RESERVED record it makes in the lowest VACANT slot with
its reserved address claimed and its groups joined. -/
def Obligations.ProvisionMakesARecord : Prop :=
  ∀ (args : List Byte) (s : State), Serving 0x20 args s → s.ros.groups.length = 16 →
    let u := uidAt args 0
    let address := natAt args 6
    let pinned := natAt args 7
    let n := natAt args 8
    let label := (args.drop 9).take n
    let groups := (args.drop (10 + n)).map BitVec.toNat
    ∃ t, Runs .provision s t ∧
      if (u = 0 ∨ u = BitVec.allOnes 48) ∨ 60 < address ∨ 1 < pinned ∨ 12 < n ∨ (∃ g ∈ groups, 15 < g) then
        t = s.resulted .badArgument []
      else if (s.findUid u).isSome = true then t = s.resulted .duplicate []
      else
        match s.vacantSlot with
        | none => t = s.resulted .full []
        | some slot =>
          match (if address = 0 then some (s.ros.free, s.ros.hold) else claim address u (s.ros.free, s.ros.hold)) with
          | none => t = s.resulted .inUse []
          | some (free, hold) =>
            if ∃ g ∈ groups, 24 ≤ (s.group g).members.length then t = s.resulted .full []
            else if 4 < groups.length ∨ ¬ groups.Nodup then t = s.resulted .badArgument []
            else
              t = { s.resulted .done [byte slot] with
                ros :=
                  { table := s.ros.table.set slot (some
                      { state := .reserved, origin := .host, uid := u,
                        address := if address = 0 then none else some address, reserved := decide (address ≠ 0),
                        pinned := decide (pinned = 1), remaining := none, cls := 0, binds := 0, conflicts := 0,
                        groups := groups, label := label })
                    free := free
                    hold := hold
                    apq := s.ros.apq.eraseP fun i => i.uid == u
                    groups := s.ros.groups.mapIdx fun g x =>
                      if g ∈ groups then { x with members := x.members ++ [slot] } else x }
                cn := s.cn.marked slot }

/-- R8, R9, R15, R68, R69, R181, R182: EDIT's checks in their order, and each selected field's effect on the record, its
timer and its address's custody, the change bit set once. -/
def Obligations.EditChangesARecord : Prop :=
  ∀ (args : List Byte) (s : State), Serving 0x21 args s →
    let slot := natAt args 0
    let sel := byteAt args 1
    let pins := sel.getLsbD 1
    let reserves := sel.getLsbD 2
    let labels := sel.getLsbD 0
    let pin := natAt args 2
    let reserve := natAt args (if pins then 3 else 2)
    let place := 2 + (if pins then 1 else 0) + (if reserves then 1 else 0)
    let n := natAt args place
    ∃ t, Runs .edit s t ∧
      if 63 < slot ∨ sel = 0 ∨ 7 < sel.toNat ∨ pins ∧ 1 < pin ∨ reserves ∧ 1 < reserve ∨ labels ∧ 12 < n then
        t = s.resulted .badArgument []
      else
        match s.recordAt slot with
        | none => t = s.resulted .notFound []
        | some rd =>
          if pins ∧ (rd.state = .evicting ∨ rd.state = .barred) then t = s.resulted .badState []
          else if reserves ∧ reserve = 1 ∧ (rd.origin = .line ∨ rd.address = none) then t = s.resulted .badState []
          else
            let givesUp := reserves ∧ reserve = 0 ∧ rd.reserved = true ∧ rd.state = .reserved
            let unlapses := pins ∧ pin = 1 ∧ rd.state = .lapsed
            let edited : Record := { rd with
              state := if unlapses then .bound else rd.state
              address := if givesUp then none else rd.address
              reserved := if reserves then decide (reserve = 1) else rd.reserved
              pinned := if pins then decide (pin = 1) else rd.pinned
              remaining :=
                if pins ∧ pin = 1 ∧ (rd.state = .bound ∨ rd.state = .lapsed) then none
                else if pins ∧ pin = 0 ∧ rd.pinned = true ∧ rd.state = .bound then some s.cfg.leaseTime
                else rd.remaining
              label := if labels then (args.drop (place + 1)).take n else rd.label }
            let ros : Roster := { s.ros with table := s.ros.table.set slot (some edited) }
            t = { s.resulted .done [] with
              ros := match rd.address with
                | some a => if givesUp then ros.gaveUp s.cfg.holdTime a rd.uid else ros
                | none => ros
              cn := s.cn.marked slot }

/-- R3, R96, R97, R103: EVICT and DELETE, their checks in order. EVICT stops the timer, moves the record to EVICTING and
queues the EVICT frame to its address; DELETE removes a RESERVED or BARRED record and gives up its address. -/
def Obligations.EvictAndDelete : Prop :=
  ∀ (slot : Byte) (s : State),
    (Serving 0x22 [slot] s → Runs .evict s
      (if 63 < slot.toNat then s.resulted .badArgument []
      else
        match s.recordAt slot.toNat with
        | none => s.resulted .notFound []
        | some rd =>
          if rd.state = .reserved ∨ rd.state = .evicting ∨ rd.state = .barred then s.resulted .badState []
          else if 6 ≤ s.txq.length then s.resulted .full []
          else { s.resulted .done [] with
            ros := { s.ros with
              table := s.ros.table.set slot.toNat (some { rd with state := .evicting, remaining := none }) }
            cn := s.cn.marked slot.toNat
            txq := s.txq ++ [
              { kind := .evict slot.toNat, attempts := 0, inAttempt := false
                frame := { ftype := 2, dest := rd.address.getD 0, code := 0xC1, tag := 0,
                           payload := uidBytes rd.uid ++ [2] } }] })) ∧
    (Serving 0x23 [slot] s → Runs .delete s
      (if 63 < slot.toNat then s.resulted .badArgument []
      else
        match s.recordAt slot.toNat with
        | none => s.resulted .notFound []
        | some rd =>
          if rd.state.active then s.resulted .badState []
          else
            let ros : Roster := { s.ros with
              table := s.ros.table.set slot.toNat none
              groups := s.ros.groups.map fun g => { g with members := g.members.erase slot.toNat } }
            { s.resulted .done [] with
              ros := match rd.address with
                | some a => ros.gaveUp s.cfg.holdTime a rd.uid
                | none => ros
              cn := s.cn.marked slot.toNat }))

/-- R82 to R85, R104, R105: BAR, APPROVE and DENY, their checks in order, and the record each makes or changes; APPROVE
queues an unsolicited OFFER to 61. -/
def Obligations.BarApproveAndDeny : Prop :=
  ∀ (args : List Byte) (s : State),
    let u := uidAt args 0
    let invalid := u = 0 ∨ u = BitVec.allOnes 48
    let item := s.ros.apq.find? fun i => i.uid == u
    let unqueued := s.ros.apq.eraseP fun i => i.uid == u
    let barred (slot : Nat) (cls : Byte) : State := { s.resulted .done [byte slot] with
      ros := { s.ros with
        table := s.ros.table.set slot (some
          { state := .barred, origin := .host, uid := u, address := none, reserved := false, pinned := false,
            remaining := none, cls := cls, binds := 0, conflicts := 0, groups := [], label := [] })
        apq := unqueued }
      cn := s.cn.marked slot }
    (Serving 0x24 args s → ∃ t, Runs .bar s t ∧
      if invalid then t = s.resulted .badArgument []
      else
        match s.findUid u, s.vacantSlot with
        | some (slot, rd), _ =>
          if rd.state = .reserved then
            let ros : Roster := { s.ros with
              table := s.ros.table.set slot (some { rd with
                state := .barred, address := none, reserved := false, pinned := false, groups := [] })
              groups := s.ros.groups.map fun g => { g with members := g.members.erase slot } }
            t = { s.resulted .done [byte slot] with
              ros := match rd.address with
                | some a => ros.gaveUp s.cfg.holdTime a rd.uid
                | none => ros
              cn := s.cn.marked slot }
          else t = s.resulted .badState []
        | none, some slot => t = barred slot 0
        | none, none => t = s.resulted .full []) ∧
    (Serving 0x30 args s → ∃ t, Runs .approve s t ∧
      if invalid then t = s.resulted .badArgument []
      else
        match item with
        | none => t = s.resulted .notFound []
        | some i =>
          if 6 ≤ s.txq.length then t = s.resulted .full []
          else
            match s.vacantSlot, assign none u (i.preferred.getD 0) (s.ros.free, s.ros.hold) with
            | some slot, some (a, free, hold) =>
              t = { s.resulted .done [byte slot] with
                ros := { s.ros with
                  table := s.ros.table.set slot (some
                    { state := .offered, origin := .line, uid := u, address := some a, reserved := false,
                      pinned := false, remaining := some s.cfg.offerTime, cls := i.cls, binds := 0, conflicts := 0,
                      groups := [], label := [] })
                  free := free, hold := hold, apq := unqueued }
                cn := s.cn.marked slot
                txq := s.txq ++ [
                  { kind := .offer, attempts := 0, inAttempt := false
                    frame := { ftype := 2, dest := 61, code := 0x83, tag := 0,
                               payload := offerBytes u a s.cfg.leaseTime s.cfg.offerTime s.ctl.epoch.toNat } }] }
            | _, _ => t = { s.resulted .full [] with cn := s.cn.noticed 2 }) ∧
    (Serving 0x31 args s → ∃ t, Runs .deny s t ∧
      if invalid ∨ 1 < natAt args 6 then t = s.resulted .badArgument []
      else
        match item, s.vacantSlot with
        | none, _ => t = s.resulted .notFound []
        | some i, vacant =>
          if natAt args 6 = 0 then t = { s.resulted .done [] with ros := { s.ros with apq := unqueued } }
          else
            match vacant with
            | some slot => t = barred slot i.cls
            | none => t = s.resulted .full [])

/-- R109, R110, R111, R113: GROUP ADD, GROUP REMOVE and GROUP OPEN, their checks in order: a slot joins at both tails and
leaves with both orders kept, its change bit set; the open flag is set with no change bit. -/
def Obligations.GroupAddRemoveAndOpen : Prop :=
  ∀ (x g : Byte) (s : State),
    let slot := x.toNat
    let members := (s.group g.toNat).members
    let withMembers (ms : List Nat) : List Group := s.ros.groups.modify g.toNat fun y => { y with members := ms }
    (Serving 0x40 [x, g] s → Runs .groupAdd s
      (if 63 < slot ∨ 15 < g.toNat then s.resulted .badArgument []
      else
        match s.recordAt slot with
        | none => s.resulted .notFound []
        | some rd =>
          if rd.state = .barred then s.resulted .badState []
          else if slot ∈ members then s.resulted .duplicate []
          else if 4 ≤ rd.groups.length then s.resulted .limit []
          else if 24 ≤ members.length then s.resulted .full []
          else { s.resulted .done [] with
            ros := { s.ros with
              table := s.ros.table.set slot (some { rd with groups := rd.groups ++ [g.toNat] })
              groups := withMembers (members ++ [slot]) }
            cn := s.cn.marked slot })) ∧
    (Serving 0x41 [x, g] s →
      (63 < slot ∨ 15 < g.toNat → Runs .groupRemove s (s.resulted .badArgument [])) ∧
      (slot ≤ 63 → g.toNat ≤ 15 → slot ∉ members → Runs .groupRemove s (s.resulted .notFound [])) ∧
      ∀ rd, slot ≤ 63 → g.toNat ≤ 15 → slot ∈ members → s.recordAt slot = some rd → Runs .groupRemove s
        { s.resulted .done [] with
          ros := { s.ros with
            table := s.ros.table.set slot (some { rd with groups := rd.groups.erase g.toNat })
            groups := withMembers (members.erase slot) }
          cn := s.cn.marked slot }) ∧
    (Serving 0x44 [x, g] s → Runs .groupOpen s
      (if 15 < x.toNat ∨ 1 < g.toNat then s.resulted .badArgument []
      else { s.resulted .done [] with
        ros := { s.ros with
          groups := s.ros.groups.modify x.toNat fun y => { y with isOpen := decide (g.toNat = 1) } } }))

/-- R112: GROUP CLEAR takes every member out of the group and the group out of each member's record, with the change bit of
every removed slot set, and reports how many; the open flag and every other group and record stay as they were. -/
def Obligations.GroupClearEmptiesTheGroup : Prop :=
  ∀ (x : Byte) (s : State), Serving 0x42 [x] s →
    let g := x.toNat
    let members := (s.group g).members
    (15 < g → Runs .groupClear s (s.resulted .badArgument [])) ∧
    (g ≤ 15 → s.GroupLaw → ∃ t, Runs .groupClear s t ∧
      t = { s.resulted .done [byte members.length] with ros := t.ros, cn := t.cn } ∧
      t.ros = { s.ros with
        table := t.ros.table, groups := s.ros.groups.modify g fun y => { y with members := [] } } ∧
      t.ros.table.length = s.ros.table.length ∧
      (∀ slot, t.recordAt slot = (s.recordAt slot).map fun rd =>
        if slot ∈ members then { rd with groups := rd.groups.erase g } else rd) ∧
      t.cn = { s.cn with changes := t.cn.changes, marks := t.cn.marks } ∧
      (∀ slot < 64,
        t.cn.changes.getLsbD slot = (s.cn.changes.getLsbD slot || decide (slot ∈ members)) ∧
        t.cn.marks.getLsbD slot = (s.cn.marks.getLsbD slot && decide (slot ∉ members))))

/-! ### Configuration and mode (10.6, chapter 12) -/

/-- R121, R150, R183, R184: CONFIGURE sets all the parameters it names, each to its value, or with BAD_ARGUMENT or STATE
none. A changed LINE_RATE starts the receiver's assemblers and silence measure again and aborts an attempt at the end of
its character; nothing else changes. The model's choices in it: log entry 14 (a 0 right after the change may be a start
edge unless RXD is known to have read 0, and the own-frame span after an aborted attempt ends when the line next falls
silent), 16 (any attempt in progress, a beacon's too, is marked to be aborted) and 31 (a character cut before the change
gets no longer own-frame span). -/
def Obligations.ConfigureSetsParameters : Prop :=
  ∀ (args : List Byte) (s : State), Serving 0x50 args s →
    let pairs := (List.range (args.length / 3)).map fun i =>
      (natAt args (3 * i), 256 * natAt args (3 * i + 1) + natAt args (3 * i + 2))
    ∃ t, Runs .configure s t ∧
      if (∃ p ∈ pairs, valueInRange p.1 p.2 = false) ∨ ¬ (pairs.map Prod.fst).Nodup then
        t = s.resulted .badArgument []
      else if s.ctl.mode = .running ∧ 12 ∈ pairs.map Prod.fst then t = s.resulted .badState []
      else
        (∀ i < 13, t.cfg.values.getD i 0 = match pairs.find? fun p => p.1 == i + 1 with
          | some p => p.2
          | none => s.cfg.values.getD i 0) ∧
        if t.cfg.lineRate = s.cfg.lineRate then t = { s.resulted .done [] with cfg := t.cfg }
        else
          t = { s.resulted .done [] with
            cfg := t.cfg
            lrx :=
              { chr := .waiting, bits := s.lrx.bits, frm := .outside
                sil := match s.lrx.chr, s.lrx.sil with
                  | .waiting, .awaitOne last => .awaitOne last
                  | _, _ => .awaitOne true
                quiet := match s.ltx.state with
                  | .sending a => some (a.drive.start + 11 * a.drive.bit)
                  | _ => s.lrx.quiet }
            ltx := match s.ltx.state with
              | .sending a => { s.ltx with state := .sending { a with abortAtEnd := true } }
              | _ => s.ltx }

/-- R59, R146, R147, R150, R198, R199, R200: HOLD and RELEASE change the mode in the one operation, stopping or starting
the beacon timer and keeping the clock's phase, the queues, the roster and the change set. -/
def Obligations.HoldAndRelease : Prop :=
  ∀ s : State,
    (Serving 0x60 [] s →
      (s.ctl.mode = .held → Runs .hold s (s.resulted .badState [])) ∧
      (s.ctl.mode = .running → Runs .hold s { s.resulted .done [] with
        ctl := { s.ctl with mode := .held }
        clk := { s.clk with beacon := none }
        ltx := match s.ltx.state with
          | .window _ => { s.ltx with state := .ready, beaconPending := false }
          | .sending a =>
            if a.kind = .entry then { s.ltx with beaconPending := false }
            else { state := .ready, tail := some a.drive, beaconPending := false }
          | _ => { s.ltx with beaconPending := false } })) ∧
    (∀ high low : Byte, Serving 0x61 [high, low] s →
      (s.ctl.mode = .running → Runs .release s (s.resulted .badState [])) ∧
      (s.ctl.mode = .held → Runs .release s { s.resulted .done [] with
        ctl := { mode := .running, epoch := high ++ low }
        clk := { s.clk with beacon := some { elapsed := 0, period := 147456 * (s.cfg.beaconPeriod / 10) } }
        ltx := { s.ltx with beaconPending := true } }))

/-- R27, R100, R151, R201: ROSTER CLEAR empties the roster, the queues, the completions, the change set, the notices and
the latch, cuts an attempt after its character and enters HELD; the configuration, the counters, the epoch, the clock's
phase and the line receiver stay. -/
def Obligations.RosterClearEmptiesTheRoster : Prop :=
  ∀ s : State, Serving 0x62 [] s → Runs .rosterClear s { s.resulted .done [] with
    ctl := { s.ctl with mode := .held }
    clk := { s.clk with beacon := none }
    ros :=
      { table := List.replicate 64 none, free := (List.range 60).map (· + 1), hold := [], apq := [],
        groups := List.replicate 16 { isOpen := false, members := [] } }
    rxq := []
    txq := []
    completions := []
    ltx :=
      { state := .ready, beaconPending := false
        tail := match s.ltx.state with
          | .sending a => some a.drive
          | _ => s.ltx.tail }
    cn := { s.cn with changes := 0, marks := 0, notices := 0, noticeMarks := 0, latch := none } }
end

