-- ==== Sys2Proof/Laws/Bytes.lean ====
section
/-! SUPPORT. The byte order of UIDs and numbers: reading back what was written. -/

namespace Sys2Proof.Machine

/-- The six bytes of a UID read out of it again. -/
theorem extract_uid (a b c d e f : Byte) :
    (a ++ b ++ c ++ d ++ e ++ f).extractLsb' 40 8 = a ∧ (a ++ b ++ c ++ d ++ e ++ f).extractLsb' 32 8 = b ∧
    (a ++ b ++ c ++ d ++ e ++ f).extractLsb' 24 8 = c ∧ (a ++ b ++ c ++ d ++ e ++ f).extractLsb' 16 8 = d ∧
    (a ++ b ++ c ++ d ++ e ++ f).extractLsb' 8 8 = e ∧ (a ++ b ++ c ++ d ++ e ++ f).extractLsb' 0 8 = f := by
  refine ⟨?_, ?_, ?_, ?_, ?_, ?_⟩ <;>
  · apply BitVec.eq_of_getLsbD_eq
    intro i hi
    simp only [BitVec.getLsbD_extractLsb', BitVec.getLsbD_append, hi, decide_true, Bool.true_and]
    repeat' split
    all_goals first | rfl | omega | skip
    all_goals (congr 1; omega)

/-- The UID that leads a payload, written out, is its first six bytes. -/
theorem uidBytes_uidAt (bs : List Byte) (h : 6 ≤ bs.length) : uidBytes (uidAt bs 0) = bs.take 6 := by
  match bs, h with
  | a :: b :: c :: d :: e :: f :: rest, _ =>
    obtain ⟨h1, h2, h3, h4, h5, h6⟩ := extract_uid a b c d e f
    show [(a ++ b ++ c ++ d ++ e ++ f).extractLsb' 40 8, (a ++ b ++ c ++ d ++ e ++ f).extractLsb' 32 8,
      (a ++ b ++ c ++ d ++ e ++ f).extractLsb' 24 8, (a ++ b ++ c ++ d ++ e ++ f).extractLsb' 16 8,
      (a ++ b ++ c ++ d ++ e ++ f).extractLsb' 8 8, (a ++ b ++ c ++ d ++ e ++ f).extractLsb' 0 8] = _
    rw [h1, h2, h3, h4, h5, h6]; rfl

/-- An invalid UID is one of the two of 00 section 5. -/
theorem validUid_eq_false (u : Uid) : validUid u = false ↔ u = 0 ∨ u = BitVec.allOnes 48 := by
  simp only [validUid, Bool.and_eq_false_iff, bne_eq_false_iff_eq]

/-- An assignable address is one of 1..60. -/
theorem assignable_iff (a : Nat) : assignable a = true ↔ 1 ≤ a ∧ a ≤ 60 := by
  simp [assignable]

/-- The number in a byte list of one byte. -/
@[simp] theorem natAt_singleton (b : Byte) : natAt [b] 0 = b.toNat := rfl
@[simp] theorem natAt_pair_zero (b c : Byte) : natAt [b, c] 0 = b.toNat := rfl
@[simp] theorem natAt_pair_one (b c : Byte) : natAt [b, c] 1 = c.toNat := rfl

/-- A word of two bytes is their concatenation (R203). -/
theorem ofNat_wordAt (hi lo : Byte) : BitVec.ofNat 16 (wordAt [hi, lo] 0) = hi ++ lo := by
  apply BitVec.eq_of_toNat_eq
  rw [BitVec.toNat_append, ← Nat.shiftLeft_add_eq_or_of_lt lo.isLt, BitVec.toNat_ofNat, wordAt, natAt_pair_zero,
    show natAt [hi, lo] (0 + 1) = lo.toNat from rfl, Nat.shiftLeft_eq]
  omega

end Sys2Proof.Machine
end

