-- ==== Sys2Proof/Laws/State.lean ====
section
/-! SUPPORT. The fields of the state after each named update: one lemma per update, all fields at once, true by rfl. -/

namespace Sys2Proof.Machine

variable (s : State)

@[simp] theorem State.setTable_fields (t : List (Option Record)) :
    (s.setTable t).now = s.now ∧ (s.setTable t).inReset = s.inReset ∧ (s.setTable t).startUp = s.startUp ∧
    (s.setTable t).ctl = s.ctl ∧ (s.setTable t).clk = s.clk ∧ (s.setTable t).cfg = s.cfg ∧
    (s.setTable t).ros = { s.ros with table := t } ∧ (s.setTable t).lrx = s.lrx ∧ (s.setTable t).rxq = s.rxq ∧
    (s.setTable t).txq = s.txq ∧ (s.setTable t).ltx = s.ltx ∧ (s.setTable t).completions = s.completions ∧
    (s.setTable t).hp = s.hp ∧ (s.setTable t).cu = s.cu ∧ (s.setTable t).cn = s.cn ∧
    (s.setTable t).pending = s.pending :=
  ⟨rfl, rfl, rfl, rfl, rfl, rfl, rfl, rfl, rfl, rfl, rfl, rfl, rfl, rfl, rfl, rfl⟩

@[simp] theorem State.setFree_fields (f : List Nat) :
    (s.setFree f).now = s.now ∧ (s.setFree f).inReset = s.inReset ∧ (s.setFree f).startUp = s.startUp ∧
    (s.setFree f).ctl = s.ctl ∧ (s.setFree f).clk = s.clk ∧ (s.setFree f).cfg = s.cfg ∧
    (s.setFree f).ros = { s.ros with free := f } ∧ (s.setFree f).lrx = s.lrx ∧ (s.setFree f).rxq = s.rxq ∧
    (s.setFree f).txq = s.txq ∧ (s.setFree f).ltx = s.ltx ∧ (s.setFree f).completions = s.completions ∧
    (s.setFree f).hp = s.hp ∧ (s.setFree f).cu = s.cu ∧ (s.setFree f).cn = s.cn ∧ (s.setFree f).pending = s.pending :=
  ⟨rfl, rfl, rfl, rfl, rfl, rfl, rfl, rfl, rfl, rfl, rfl, rfl, rfl, rfl, rfl, rfl⟩

@[simp] theorem State.setHold_fields (h : List HoldItem) :
    (s.setHold h).now = s.now ∧ (s.setHold h).inReset = s.inReset ∧ (s.setHold h).startUp = s.startUp ∧
    (s.setHold h).ctl = s.ctl ∧ (s.setHold h).clk = s.clk ∧ (s.setHold h).cfg = s.cfg ∧
    (s.setHold h).ros = { s.ros with hold := h } ∧ (s.setHold h).lrx = s.lrx ∧ (s.setHold h).rxq = s.rxq ∧
    (s.setHold h).txq = s.txq ∧ (s.setHold h).ltx = s.ltx ∧ (s.setHold h).completions = s.completions ∧
    (s.setHold h).hp = s.hp ∧ (s.setHold h).cu = s.cu ∧ (s.setHold h).cn = s.cn ∧ (s.setHold h).pending = s.pending :=
  ⟨rfl, rfl, rfl, rfl, rfl, rfl, rfl, rfl, rfl, rfl, rfl, rfl, rfl, rfl, rfl, rfl⟩

@[simp] theorem State.setApq_fields (q : List ApqItem) :
    (s.setApq q).now = s.now ∧ (s.setApq q).inReset = s.inReset ∧ (s.setApq q).startUp = s.startUp ∧
    (s.setApq q).ctl = s.ctl ∧ (s.setApq q).clk = s.clk ∧ (s.setApq q).cfg = s.cfg ∧
    (s.setApq q).ros = { s.ros with apq := q } ∧ (s.setApq q).lrx = s.lrx ∧ (s.setApq q).rxq = s.rxq ∧
    (s.setApq q).txq = s.txq ∧ (s.setApq q).ltx = s.ltx ∧ (s.setApq q).completions = s.completions ∧
    (s.setApq q).hp = s.hp ∧ (s.setApq q).cu = s.cu ∧ (s.setApq q).cn = s.cn ∧ (s.setApq q).pending = s.pending :=
  ⟨rfl, rfl, rfl, rfl, rfl, rfl, rfl, rfl, rfl, rfl, rfl, rfl, rfl, rfl, rfl, rfl⟩

@[simp] theorem State.setGroups_fields (g : List Group) :
    (s.setGroups g).now = s.now ∧ (s.setGroups g).inReset = s.inReset ∧ (s.setGroups g).startUp = s.startUp ∧
    (s.setGroups g).ctl = s.ctl ∧ (s.setGroups g).clk = s.clk ∧ (s.setGroups g).cfg = s.cfg ∧
    (s.setGroups g).ros = { s.ros with groups := g } ∧ (s.setGroups g).lrx = s.lrx ∧ (s.setGroups g).rxq = s.rxq ∧
    (s.setGroups g).txq = s.txq ∧ (s.setGroups g).ltx = s.ltx ∧ (s.setGroups g).completions = s.completions ∧
    (s.setGroups g).hp = s.hp ∧ (s.setGroups g).cu = s.cu ∧ (s.setGroups g).cn = s.cn ∧
    (s.setGroups g).pending = s.pending :=
  ⟨rfl, rfl, rfl, rfl, rfl, rfl, rfl, rfl, rfl, rfl, rfl, rfl, rfl, rfl, rfl, rfl⟩

@[simp] theorem State.setRxq_fields (q : List Request) :
    (s.setRxq q).now = s.now ∧ (s.setRxq q).inReset = s.inReset ∧ (s.setRxq q).startUp = s.startUp ∧
    (s.setRxq q).ctl = s.ctl ∧ (s.setRxq q).clk = s.clk ∧ (s.setRxq q).cfg = s.cfg ∧ (s.setRxq q).ros = s.ros ∧
    (s.setRxq q).lrx = s.lrx ∧ (s.setRxq q).rxq = q ∧ (s.setRxq q).txq = s.txq ∧ (s.setRxq q).ltx = s.ltx ∧
    (s.setRxq q).completions = s.completions ∧ (s.setRxq q).hp = s.hp ∧ (s.setRxq q).cu = s.cu ∧
    (s.setRxq q).cn = s.cn ∧ (s.setRxq q).pending = s.pending :=
  ⟨rfl, rfl, rfl, rfl, rfl, rfl, rfl, rfl, rfl, rfl, rfl, rfl, rfl, rfl, rfl, rfl⟩

@[simp] theorem State.setTxq_fields (q : List Entry) :
    (s.setTxq q).now = s.now ∧ (s.setTxq q).inReset = s.inReset ∧ (s.setTxq q).startUp = s.startUp ∧
    (s.setTxq q).ctl = s.ctl ∧ (s.setTxq q).clk = s.clk ∧ (s.setTxq q).cfg = s.cfg ∧ (s.setTxq q).ros = s.ros ∧
    (s.setTxq q).lrx = s.lrx ∧ (s.setTxq q).rxq = s.rxq ∧ (s.setTxq q).txq = q ∧ (s.setTxq q).ltx = s.ltx ∧
    (s.setTxq q).completions = s.completions ∧ (s.setTxq q).hp = s.hp ∧ (s.setTxq q).cu = s.cu ∧
    (s.setTxq q).cn = s.cn ∧ (s.setTxq q).pending = s.pending :=
  ⟨rfl, rfl, rfl, rfl, rfl, rfl, rfl, rfl, rfl, rfl, rfl, rfl, rfl, rfl, rfl, rfl⟩

@[simp] theorem State.setLtx_fields (l : Ltx) :
    (s.setLtx l).now = s.now ∧ (s.setLtx l).inReset = s.inReset ∧ (s.setLtx l).startUp = s.startUp ∧
    (s.setLtx l).ctl = s.ctl ∧ (s.setLtx l).clk = s.clk ∧ (s.setLtx l).cfg = s.cfg ∧ (s.setLtx l).ros = s.ros ∧
    (s.setLtx l).lrx = s.lrx ∧ (s.setLtx l).rxq = s.rxq ∧ (s.setLtx l).txq = s.txq ∧ (s.setLtx l).ltx = l ∧
    (s.setLtx l).completions = s.completions ∧ (s.setLtx l).hp = s.hp ∧ (s.setLtx l).cu = s.cu ∧
    (s.setLtx l).cn = s.cn ∧ (s.setLtx l).pending = s.pending :=
  ⟨rfl, rfl, rfl, rfl, rfl, rfl, rfl, rfl, rfl, rfl, rfl, rfl, rfl, rfl, rfl, rfl⟩

@[simp] theorem State.setLrx_fields (l : Lrx) :
    (s.setLrx l).now = s.now ∧ (s.setLrx l).inReset = s.inReset ∧ (s.setLrx l).startUp = s.startUp ∧
    (s.setLrx l).ctl = s.ctl ∧ (s.setLrx l).clk = s.clk ∧ (s.setLrx l).cfg = s.cfg ∧ (s.setLrx l).ros = s.ros ∧
    (s.setLrx l).lrx = l ∧ (s.setLrx l).rxq = s.rxq ∧ (s.setLrx l).txq = s.txq ∧ (s.setLrx l).ltx = s.ltx ∧
    (s.setLrx l).completions = s.completions ∧ (s.setLrx l).hp = s.hp ∧ (s.setLrx l).cu = s.cu ∧
    (s.setLrx l).cn = s.cn ∧ (s.setLrx l).pending = s.pending :=
  ⟨rfl, rfl, rfl, rfl, rfl, rfl, rfl, rfl, rfl, rfl, rfl, rfl, rfl, rfl, rfl, rfl⟩

@[simp] theorem State.setCompletions_fields (c : List Nat) :
    (s.setCompletions c).now = s.now ∧ (s.setCompletions c).inReset = s.inReset ∧
    (s.setCompletions c).startUp = s.startUp ∧ (s.setCompletions c).ctl = s.ctl ∧ (s.setCompletions c).clk = s.clk ∧
    (s.setCompletions c).cfg = s.cfg ∧ (s.setCompletions c).ros = s.ros ∧ (s.setCompletions c).lrx = s.lrx ∧
    (s.setCompletions c).rxq = s.rxq ∧ (s.setCompletions c).txq = s.txq ∧ (s.setCompletions c).ltx = s.ltx ∧
    (s.setCompletions c).completions = c ∧ (s.setCompletions c).hp = s.hp ∧ (s.setCompletions c).cu = s.cu ∧
    (s.setCompletions c).cn = s.cn ∧ (s.setCompletions c).pending = s.pending :=
  ⟨rfl, rfl, rfl, rfl, rfl, rfl, rfl, rfl, rfl, rfl, rfl, rfl, rfl, rfl, rfl, rfl⟩

@[simp] theorem State.setCtl_fields (c : ModeControl) :
    (s.setCtl c).now = s.now ∧ (s.setCtl c).inReset = s.inReset ∧ (s.setCtl c).startUp = s.startUp ∧
    (s.setCtl c).ctl = c ∧ (s.setCtl c).clk = s.clk ∧ (s.setCtl c).cfg = s.cfg ∧ (s.setCtl c).ros = s.ros ∧
    (s.setCtl c).lrx = s.lrx ∧ (s.setCtl c).rxq = s.rxq ∧ (s.setCtl c).txq = s.txq ∧ (s.setCtl c).ltx = s.ltx ∧
    (s.setCtl c).completions = s.completions ∧ (s.setCtl c).hp = s.hp ∧ (s.setCtl c).cu = s.cu ∧
    (s.setCtl c).cn = s.cn ∧ (s.setCtl c).pending = s.pending :=
  ⟨rfl, rfl, rfl, rfl, rfl, rfl, rfl, rfl, rfl, rfl, rfl, rfl, rfl, rfl, rfl, rfl⟩

@[simp] theorem State.setClk_fields (c : Clocks) :
    (s.setClk c).now = s.now ∧ (s.setClk c).inReset = s.inReset ∧ (s.setClk c).startUp = s.startUp ∧
    (s.setClk c).ctl = s.ctl ∧ (s.setClk c).clk = c ∧ (s.setClk c).cfg = s.cfg ∧ (s.setClk c).ros = s.ros ∧
    (s.setClk c).lrx = s.lrx ∧ (s.setClk c).rxq = s.rxq ∧ (s.setClk c).txq = s.txq ∧ (s.setClk c).ltx = s.ltx ∧
    (s.setClk c).completions = s.completions ∧ (s.setClk c).hp = s.hp ∧ (s.setClk c).cu = s.cu ∧
    (s.setClk c).cn = s.cn ∧ (s.setClk c).pending = s.pending :=
  ⟨rfl, rfl, rfl, rfl, rfl, rfl, rfl, rfl, rfl, rfl, rfl, rfl, rfl, rfl, rfl, rfl⟩

@[simp] theorem State.setCfg_fields (p : Params) :
    (s.setCfg p).now = s.now ∧ (s.setCfg p).inReset = s.inReset ∧ (s.setCfg p).startUp = s.startUp ∧
    (s.setCfg p).ctl = s.ctl ∧ (s.setCfg p).clk = s.clk ∧ (s.setCfg p).cfg = p ∧ (s.setCfg p).ros = s.ros ∧
    (s.setCfg p).lrx = s.lrx ∧ (s.setCfg p).rxq = s.rxq ∧ (s.setCfg p).txq = s.txq ∧ (s.setCfg p).ltx = s.ltx ∧
    (s.setCfg p).completions = s.completions ∧ (s.setCfg p).hp = s.hp ∧ (s.setCfg p).cu = s.cu ∧
    (s.setCfg p).cn = s.cn ∧ (s.setCfg p).pending = s.pending :=
  ⟨rfl, rfl, rfl, rfl, rfl, rfl, rfl, rfl, rfl, rfl, rfl, rfl, rfl, rfl, rfl, rfl⟩

@[simp] theorem State.setCu_fields (c : CmdUnit) :
    (s.setCu c).now = s.now ∧ (s.setCu c).inReset = s.inReset ∧ (s.setCu c).startUp = s.startUp ∧
    (s.setCu c).ctl = s.ctl ∧ (s.setCu c).clk = s.clk ∧ (s.setCu c).cfg = s.cfg ∧ (s.setCu c).ros = s.ros ∧
    (s.setCu c).lrx = s.lrx ∧ (s.setCu c).rxq = s.rxq ∧ (s.setCu c).txq = s.txq ∧ (s.setCu c).ltx = s.ltx ∧
    (s.setCu c).completions = s.completions ∧ (s.setCu c).hp = s.hp ∧ (s.setCu c).cu = c ∧ (s.setCu c).cn = s.cn ∧
    (s.setCu c).pending = s.pending :=
  ⟨rfl, rfl, rfl, rfl, rfl, rfl, rfl, rfl, rfl, rfl, rfl, rfl, rfl, rfl, rfl, rfl⟩

@[simp] theorem State.setHp_fields (p : Port) :
    (s.setHp p).now = s.now ∧ (s.setHp p).inReset = s.inReset ∧ (s.setHp p).startUp = s.startUp ∧
    (s.setHp p).ctl = s.ctl ∧ (s.setHp p).clk = s.clk ∧ (s.setHp p).cfg = s.cfg ∧ (s.setHp p).ros = s.ros ∧
    (s.setHp p).lrx = s.lrx ∧ (s.setHp p).rxq = s.rxq ∧ (s.setHp p).txq = s.txq ∧ (s.setHp p).ltx = s.ltx ∧
    (s.setHp p).completions = s.completions ∧ (s.setHp p).hp = p ∧ (s.setHp p).cu = s.cu ∧ (s.setHp p).cn = s.cn ∧
    (s.setHp p).pending = s.pending :=
  ⟨rfl, rfl, rfl, rfl, rfl, rfl, rfl, rfl, rfl, rfl, rfl, rfl, rfl, rfl, rfl, rfl⟩

@[simp] theorem State.setCn_fields (c : Cn) :
    (s.setCn c).now = s.now ∧ (s.setCn c).inReset = s.inReset ∧ (s.setCn c).startUp = s.startUp ∧
    (s.setCn c).ctl = s.ctl ∧ (s.setCn c).clk = s.clk ∧ (s.setCn c).cfg = s.cfg ∧ (s.setCn c).ros = s.ros ∧
    (s.setCn c).lrx = s.lrx ∧ (s.setCn c).rxq = s.rxq ∧ (s.setCn c).txq = s.txq ∧ (s.setCn c).ltx = s.ltx ∧
    (s.setCn c).completions = s.completions ∧ (s.setCn c).hp = s.hp ∧ (s.setCn c).cu = s.cu ∧ (s.setCn c).cn = c ∧
    (s.setCn c).pending = s.pending :=
  ⟨rfl, rfl, rfl, rfl, rfl, rfl, rfl, rfl, rfl, rfl, rfl, rfl, rfl, rfl, rfl, rfl⟩

@[simp] theorem State.setCustody_fields (c : Custody) :
    (s.setCustody c).now = s.now ∧ (s.setCustody c).inReset = s.inReset ∧ (s.setCustody c).startUp = s.startUp ∧
    (s.setCustody c).ctl = s.ctl ∧ (s.setCustody c).clk = s.clk ∧ (s.setCustody c).cfg = s.cfg ∧
    (s.setCustody c).ros = { s.ros with free := c.1, hold := c.2 } ∧ (s.setCustody c).lrx = s.lrx ∧
    (s.setCustody c).rxq = s.rxq ∧ (s.setCustody c).txq = s.txq ∧ (s.setCustody c).ltx = s.ltx ∧
    (s.setCustody c).completions = s.completions ∧ (s.setCustody c).hp = s.hp ∧ (s.setCustody c).cu = s.cu ∧
    (s.setCustody c).cn = s.cn ∧ (s.setCustody c).pending = s.pending :=
  ⟨rfl, rfl, rfl, rfl, rfl, rfl, rfl, rfl, rfl, rfl, rfl, rfl, rfl, rfl, rfl, rfl⟩

@[simp] theorem State.putRecord_fields (slot : Nat) (r : Record) :
    (s.putRecord slot r).now = s.now ∧ (s.putRecord slot r).inReset = s.inReset ∧
    (s.putRecord slot r).startUp = s.startUp ∧ (s.putRecord slot r).ctl = s.ctl ∧ (s.putRecord slot r).clk = s.clk ∧
    (s.putRecord slot r).cfg = s.cfg ∧
    (s.putRecord slot r).ros = { s.ros with table := s.ros.table.set slot (some r) } ∧
    (s.putRecord slot r).lrx = s.lrx ∧ (s.putRecord slot r).rxq = s.rxq ∧ (s.putRecord slot r).txq = s.txq ∧
    (s.putRecord slot r).ltx = s.ltx ∧ (s.putRecord slot r).completions = s.completions ∧
    (s.putRecord slot r).hp = s.hp ∧ (s.putRecord slot r).cu = s.cu ∧ (s.putRecord slot r).cn = s.cn ∧
    (s.putRecord slot r).pending = s.pending :=
  ⟨rfl, rfl, rfl, rfl, rfl, rfl, rfl, rfl, rfl, rfl, rfl, rfl, rfl, rfl, rfl, rfl⟩

@[simp] theorem State.dropApq_fields (u : Uid) :
    (s.dropApq u).now = s.now ∧ (s.dropApq u).inReset = s.inReset ∧ (s.dropApq u).startUp = s.startUp ∧
    (s.dropApq u).ctl = s.ctl ∧ (s.dropApq u).clk = s.clk ∧ (s.dropApq u).cfg = s.cfg ∧
    (s.dropApq u).ros = { s.ros with apq := s.ros.apq.eraseP fun i => i.uid == u } ∧ (s.dropApq u).lrx = s.lrx ∧
    (s.dropApq u).rxq = s.rxq ∧ (s.dropApq u).txq = s.txq ∧ (s.dropApq u).ltx = s.ltx ∧
    (s.dropApq u).completions = s.completions ∧ (s.dropApq u).hp = s.hp ∧ (s.dropApq u).cu = s.cu ∧
    (s.dropApq u).cn = s.cn ∧ (s.dropApq u).pending = s.pending :=
  ⟨rfl, rfl, rfl, rfl, rfl, rfl, rfl, rfl, rfl, rfl, rfl, rfl, rfl, rfl, rfl, rfl⟩

@[simp] theorem State.setMembers_fields (g : Nat) (ms : List Nat) :
    (s.setMembers g ms).now = s.now ∧ (s.setMembers g ms).inReset = s.inReset ∧
    (s.setMembers g ms).startUp = s.startUp ∧ (s.setMembers g ms).ctl = s.ctl ∧ (s.setMembers g ms).clk = s.clk ∧
    (s.setMembers g ms).cfg = s.cfg ∧
    (s.setMembers g ms).ros = { s.ros with groups := s.ros.groups.modify g fun x => { x with members := ms } } ∧
    (s.setMembers g ms).lrx = s.lrx ∧ (s.setMembers g ms).rxq = s.rxq ∧ (s.setMembers g ms).txq = s.txq ∧
    (s.setMembers g ms).ltx = s.ltx ∧ (s.setMembers g ms).completions = s.completions ∧
    (s.setMembers g ms).hp = s.hp ∧ (s.setMembers g ms).cu = s.cu ∧ (s.setMembers g ms).cn = s.cn ∧
    (s.setMembers g ms).pending = s.pending :=
  ⟨rfl, rfl, rfl, rfl, rfl, rfl, rfl, rfl, rfl, rfl, rfl, rfl, rfl, rfl, rfl, rfl⟩

@[simp] theorem State.leaveAll_fields (slot : Nat) :
    (s.leaveAll slot).now = s.now ∧ (s.leaveAll slot).inReset = s.inReset ∧ (s.leaveAll slot).startUp = s.startUp ∧
    (s.leaveAll slot).ctl = s.ctl ∧ (s.leaveAll slot).clk = s.clk ∧ (s.leaveAll slot).cfg = s.cfg ∧
    (s.leaveAll slot).ros = { s.ros with groups := s.ros.groups.map fun x => { x with members := x.members.erase slot } } ∧
    (s.leaveAll slot).lrx = s.lrx ∧ (s.leaveAll slot).rxq = s.rxq ∧ (s.leaveAll slot).txq = s.txq ∧
    (s.leaveAll slot).ltx = s.ltx ∧ (s.leaveAll slot).completions = s.completions ∧ (s.leaveAll slot).hp = s.hp ∧
    (s.leaveAll slot).cu = s.cu ∧ (s.leaveAll slot).cn = s.cn ∧ (s.leaveAll slot).pending = s.pending :=
  ⟨rfl, rfl, rfl, rfl, rfl, rfl, rfl, rfl, rfl, rfl, rfl, rfl, rfl, rfl, rfl, rfl⟩

@[simp] theorem State.enqueue_fields (e : Entry) :
    (s.enqueue e).now = s.now ∧ (s.enqueue e).inReset = s.inReset ∧ (s.enqueue e).startUp = s.startUp ∧
    (s.enqueue e).ctl = s.ctl ∧ (s.enqueue e).clk = s.clk ∧ (s.enqueue e).cfg = s.cfg ∧ (s.enqueue e).ros = s.ros ∧
    (s.enqueue e).lrx = s.lrx ∧ (s.enqueue e).rxq = s.rxq ∧ (s.enqueue e).txq = s.txq ++ [e] ∧
    (s.enqueue e).ltx = s.ltx ∧ (s.enqueue e).completions = s.completions ∧ (s.enqueue e).hp = s.hp ∧
    (s.enqueue e).cu = s.cu ∧ (s.enqueue e).cn = s.cn ∧ (s.enqueue e).pending = s.pending :=
  ⟨rfl, rfl, rfl, rfl, rfl, rfl, rfl, rfl, rfl, rfl, rfl, rfl, rfl, rfl, rfl, rfl⟩

@[simp] theorem State.markChange_fields (slot : Nat) :
    (s.markChange slot).now = s.now ∧ (s.markChange slot).inReset = s.inReset ∧
    (s.markChange slot).startUp = s.startUp ∧ (s.markChange slot).ctl = s.ctl ∧ (s.markChange slot).clk = s.clk ∧
    (s.markChange slot).cfg = s.cfg ∧ (s.markChange slot).ros = s.ros ∧ (s.markChange slot).lrx = s.lrx ∧
    (s.markChange slot).rxq = s.rxq ∧ (s.markChange slot).txq = s.txq ∧ (s.markChange slot).ltx = s.ltx ∧
    (s.markChange slot).completions = s.completions ∧ (s.markChange slot).hp = s.hp ∧ (s.markChange slot).cu = s.cu ∧
    (s.markChange slot).cn = s.cn.markChange slot ∧ (s.markChange slot).pending = s.pending :=
  ⟨rfl, rfl, rfl, rfl, rfl, rfl, rfl, rfl, rfl, rfl, rfl, rfl, rfl, rfl, rfl, rfl⟩

@[simp] theorem State.setNotice_fields (n : Notice) :
    (s.setNotice n).now = s.now ∧ (s.setNotice n).inReset = s.inReset ∧ (s.setNotice n).startUp = s.startUp ∧
    (s.setNotice n).ctl = s.ctl ∧ (s.setNotice n).clk = s.clk ∧ (s.setNotice n).cfg = s.cfg ∧
    (s.setNotice n).ros = s.ros ∧ (s.setNotice n).lrx = s.lrx ∧ (s.setNotice n).rxq = s.rxq ∧
    (s.setNotice n).txq = s.txq ∧ (s.setNotice n).ltx = s.ltx ∧ (s.setNotice n).completions = s.completions ∧
    (s.setNotice n).hp = s.hp ∧ (s.setNotice n).cu = s.cu ∧ (s.setNotice n).cn = s.cn.setNotice n ∧
    (s.setNotice n).pending = s.pending :=
  ⟨rfl, rfl, rfl, rfl, rfl, rfl, rfl, rfl, rfl, rfl, rfl, rfl, rfl, rfl, rfl, rfl⟩

@[simp] theorem State.change_fields (slot : Nat) (r : Record) :
    (s.change slot r).now = s.now ∧ (s.change slot r).inReset = s.inReset ∧ (s.change slot r).startUp = s.startUp ∧
    (s.change slot r).ctl = s.ctl ∧ (s.change slot r).clk = s.clk ∧ (s.change slot r).cfg = s.cfg ∧
    (s.change slot r).ros = { s.ros with table := s.ros.table.set slot (some r) } ∧ (s.change slot r).lrx = s.lrx ∧
    (s.change slot r).rxq = s.rxq ∧ (s.change slot r).txq = s.txq ∧ (s.change slot r).ltx = s.ltx ∧
    (s.change slot r).completions = s.completions ∧ (s.change slot r).hp = s.hp ∧ (s.change slot r).cu = s.cu ∧
    (s.change slot r).cn = s.cn.markChange slot ∧ (s.change slot r).pending = s.pending :=
  ⟨rfl, rfl, rfl, rfl, rfl, rfl, rfl, rfl, rfl, rfl, rfl, rfl, rfl, rfl, rfl, rfl⟩

@[simp] theorem State.create_fields (slot : Nat) (r : Record) :
    (s.create slot r).now = s.now ∧ (s.create slot r).inReset = s.inReset ∧ (s.create slot r).startUp = s.startUp ∧
    (s.create slot r).ctl = s.ctl ∧ (s.create slot r).clk = s.clk ∧ (s.create slot r).cfg = s.cfg ∧
    (s.create slot r).ros = { s.ros with table := s.ros.table.set slot (some r), apq := s.ros.apq.eraseP fun i => i.uid == r.uid } ∧
    (s.create slot r).lrx = s.lrx ∧ (s.create slot r).rxq = s.rxq ∧ (s.create slot r).txq = s.txq ∧
    (s.create slot r).ltx = s.ltx ∧ (s.create slot r).completions = s.completions ∧ (s.create slot r).hp = s.hp ∧
    (s.create slot r).cu = s.cu ∧ (s.create slot r).cn = s.cn.markChange slot ∧
    (s.create slot r).pending = s.pending :=
  ⟨rfl, rfl, rfl, rfl, rfl, rfl, rfl, rfl, rfl, rfl, rfl, rfl, rfl, rfl, rfl, rfl⟩

@[simp] theorem State.remove_fields (slot : Nat) :
    (s.remove slot).now = s.now ∧ (s.remove slot).inReset = s.inReset ∧ (s.remove slot).startUp = s.startUp ∧
    (s.remove slot).ctl = s.ctl ∧ (s.remove slot).clk = s.clk ∧ (s.remove slot).cfg = s.cfg ∧
    (s.remove slot).ros = { s.ros with
        table := s.ros.table.set slot none
        groups := s.ros.groups.map fun x => { x with members := x.members.erase slot } } ∧
    (s.remove slot).lrx = s.lrx ∧ (s.remove slot).rxq = s.rxq ∧ (s.remove slot).txq = s.txq ∧
    (s.remove slot).ltx = s.ltx ∧ (s.remove slot).completions = s.completions ∧ (s.remove slot).hp = s.hp ∧
    (s.remove slot).cu = s.cu ∧ (s.remove slot).cn = s.cn.markChange slot ∧ (s.remove slot).pending = s.pending :=
  ⟨rfl, rfl, rfl, rfl, rfl, rfl, rfl, rfl, rfl, rfl, rfl, rfl, rfl, rfl, rfl, rfl⟩

@[simp] theorem State.noteLate_fields :
    s.noteLate.now = s.now ∧ s.noteLate.inReset = s.inReset ∧ s.noteLate.startUp = s.startUp ∧
    s.noteLate.ctl = s.ctl ∧ s.noteLate.clk = s.clk ∧ s.noteLate.cfg = s.cfg ∧ s.noteLate.ros = s.ros ∧
    s.noteLate.lrx = s.lrx ∧ s.noteLate.rxq = s.rxq ∧ s.noteLate.txq = s.txq ∧ s.noteLate.ltx = s.ltx ∧
    s.noteLate.completions = s.completions ∧ s.noteLate.hp = s.hp ∧ s.noteLate.cu = s.cu ∧
    s.noteLate.cn = ({ s.cn with counters := { s.cn.counters with late := bump s.cn.counters.late } } : Cn).setNotice .answerLate ∧
    s.noteLate.pending = s.pending :=
  ⟨rfl, rfl, rfl, rfl, rfl, rfl, rfl, rfl, rfl, rfl, rfl, rfl, rfl, rfl, rfl, rfl⟩

@[simp] theorem State.countAccepted_fields :
    s.countAccepted.now = s.now ∧ s.countAccepted.inReset = s.inReset ∧ s.countAccepted.startUp = s.startUp ∧
    s.countAccepted.ctl = s.ctl ∧ s.countAccepted.clk = s.clk ∧ s.countAccepted.cfg = s.cfg ∧
    s.countAccepted.ros = s.ros ∧ s.countAccepted.lrx = s.lrx ∧ s.countAccepted.rxq = s.rxq ∧
    s.countAccepted.txq = s.txq ∧ s.countAccepted.ltx = s.ltx ∧ s.countAccepted.completions = s.completions ∧
    s.countAccepted.hp = s.hp ∧ s.countAccepted.cu = s.cu ∧
    s.countAccepted.cn = { s.cn with counters := { s.cn.counters with accepted := bump s.cn.counters.accepted } } ∧
    s.countAccepted.pending = s.pending :=
  ⟨rfl, rfl, rfl, rfl, rfl, rfl, rfl, rfl, rfl, rfl, rfl, rfl, rfl, rfl, rfl, rfl⟩

@[simp] theorem State.countCrcError_fields :
    s.countCrcError.now = s.now ∧ s.countCrcError.inReset = s.inReset ∧ s.countCrcError.startUp = s.startUp ∧
    s.countCrcError.ctl = s.ctl ∧ s.countCrcError.clk = s.clk ∧ s.countCrcError.cfg = s.cfg ∧
    s.countCrcError.ros = s.ros ∧ s.countCrcError.lrx = s.lrx ∧ s.countCrcError.rxq = s.rxq ∧
    s.countCrcError.txq = s.txq ∧ s.countCrcError.ltx = s.ltx ∧ s.countCrcError.completions = s.completions ∧
    s.countCrcError.hp = s.hp ∧ s.countCrcError.cu = s.cu ∧
    s.countCrcError.cn = { s.cn with counters := { s.cn.counters with crcErrors := bump s.cn.counters.crcErrors } } ∧
    s.countCrcError.pending = s.pending :=
  ⟨rfl, rfl, rfl, rfl, rfl, rfl, rfl, rfl, rfl, rfl, rfl, rfl, rfl, rfl, rfl, rfl⟩

@[simp] theorem State.countFraming_fields :
    s.countFraming.now = s.now ∧ s.countFraming.inReset = s.inReset ∧ s.countFraming.startUp = s.startUp ∧
    s.countFraming.ctl = s.ctl ∧ s.countFraming.clk = s.clk ∧ s.countFraming.cfg = s.cfg ∧
    s.countFraming.ros = s.ros ∧ s.countFraming.lrx = s.lrx ∧ s.countFraming.rxq = s.rxq ∧
    s.countFraming.txq = s.txq ∧ s.countFraming.ltx = s.ltx ∧ s.countFraming.completions = s.completions ∧
    s.countFraming.hp = s.hp ∧ s.countFraming.cu = s.cu ∧
    s.countFraming.cn = { s.cn with counters := { s.cn.counters with framing := bump s.cn.counters.framing } } ∧
    s.countFraming.pending = s.pending :=
  ⟨rfl, rfl, rfl, rfl, rfl, rfl, rfl, rfl, rfl, rfl, rfl, rfl, rfl, rfl, rfl, rfl⟩

@[simp] theorem State.countMalformed_fields :
    s.countMalformed.now = s.now ∧ s.countMalformed.inReset = s.inReset ∧ s.countMalformed.startUp = s.startUp ∧
    s.countMalformed.ctl = s.ctl ∧ s.countMalformed.clk = s.clk ∧ s.countMalformed.cfg = s.cfg ∧
    s.countMalformed.ros = s.ros ∧ s.countMalformed.lrx = s.lrx ∧ s.countMalformed.rxq = s.rxq ∧
    s.countMalformed.txq = s.txq ∧ s.countMalformed.ltx = s.ltx ∧ s.countMalformed.completions = s.completions ∧
    s.countMalformed.hp = s.hp ∧ s.countMalformed.cu = s.cu ∧
    s.countMalformed.cn = { s.cn with counters := { s.cn.counters with malformed := bump s.cn.counters.malformed } } ∧
    s.countMalformed.pending = s.pending :=
  ⟨rfl, rfl, rfl, rfl, rfl, rfl, rfl, rfl, rfl, rfl, rfl, rfl, rfl, rfl, rfl, rfl⟩

@[simp] theorem State.countOverrun_fields :
    s.countOverrun.now = s.now ∧ s.countOverrun.inReset = s.inReset ∧ s.countOverrun.startUp = s.startUp ∧
    s.countOverrun.ctl = s.ctl ∧ s.countOverrun.clk = s.clk ∧ s.countOverrun.cfg = s.cfg ∧
    s.countOverrun.ros = s.ros ∧ s.countOverrun.lrx = s.lrx ∧ s.countOverrun.rxq = s.rxq ∧
    s.countOverrun.txq = s.txq ∧ s.countOverrun.ltx = s.ltx ∧ s.countOverrun.completions = s.completions ∧
    s.countOverrun.hp = s.hp ∧ s.countOverrun.cu = s.cu ∧
    s.countOverrun.cn = { s.cn with counters := { s.cn.counters with overruns := bump s.cn.counters.overruns } } ∧
    s.countOverrun.pending = s.pending :=
  ⟨rfl, rfl, rfl, rfl, rfl, rfl, rfl, rfl, rfl, rfl, rfl, rfl, rfl, rfl, rfl, rfl⟩

@[simp] theorem State.countLate_fields :
    s.countLate.now = s.now ∧ s.countLate.inReset = s.inReset ∧ s.countLate.startUp = s.startUp ∧
    s.countLate.ctl = s.ctl ∧ s.countLate.clk = s.clk ∧ s.countLate.cfg = s.cfg ∧ s.countLate.ros = s.ros ∧
    s.countLate.lrx = s.lrx ∧ s.countLate.rxq = s.rxq ∧ s.countLate.txq = s.txq ∧ s.countLate.ltx = s.ltx ∧
    s.countLate.completions = s.completions ∧ s.countLate.hp = s.hp ∧ s.countLate.cu = s.cu ∧
    s.countLate.cn = { s.cn with counters := { s.cn.counters with late := bump s.cn.counters.late } } ∧
    s.countLate.pending = s.pending :=
  ⟨rfl, rfl, rfl, rfl, rfl, rfl, rfl, rfl, rfl, rfl, rfl, rfl, rfl, rfl, rfl, rfl⟩

@[simp] theorem State.countAbandon_fields :
    s.countAbandon.now = s.now ∧ s.countAbandon.inReset = s.inReset ∧ s.countAbandon.startUp = s.startUp ∧
    s.countAbandon.ctl = s.ctl ∧ s.countAbandon.clk = s.clk ∧ s.countAbandon.cfg = s.cfg ∧
    s.countAbandon.ros = s.ros ∧ s.countAbandon.lrx = s.lrx ∧ s.countAbandon.rxq = s.rxq ∧
    s.countAbandon.txq = s.txq ∧ s.countAbandon.ltx = s.ltx ∧ s.countAbandon.completions = s.completions ∧
    s.countAbandon.hp = s.hp ∧ s.countAbandon.cu = s.cu ∧
    s.countAbandon.cn = { s.cn with counters := { s.cn.counters with abandons := bump s.cn.counters.abandons } } ∧
    s.countAbandon.pending = s.pending :=
  ⟨rfl, rfl, rfl, rfl, rfl, rfl, rfl, rfl, rfl, rfl, rfl, rfl, rfl, rfl, rfl, rfl⟩

@[simp] theorem State.countConflict_fields :
    s.countConflict.now = s.now ∧ s.countConflict.inReset = s.inReset ∧ s.countConflict.startUp = s.startUp ∧
    s.countConflict.ctl = s.ctl ∧ s.countConflict.clk = s.clk ∧ s.countConflict.cfg = s.cfg ∧
    s.countConflict.ros = s.ros ∧ s.countConflict.lrx = s.lrx ∧ s.countConflict.rxq = s.rxq ∧
    s.countConflict.txq = s.txq ∧ s.countConflict.ltx = s.ltx ∧ s.countConflict.completions = s.completions ∧
    s.countConflict.hp = s.hp ∧ s.countConflict.cu = s.cu ∧
    s.countConflict.cn = { s.cn with counters := { s.cn.counters with conflicts := bump s.cn.counters.conflicts } } ∧
    s.countConflict.pending = s.pending :=
  ⟨rfl, rfl, rfl, rfl, rfl, rfl, rfl, rfl, rfl, rfl, rfl, rfl, rfl, rfl, rfl, rfl⟩

end Sys2Proof.Machine
end

