-- ==== Sys2Proof/Laws/Roster.lean ====
section
/-! SUPPORT. What the roster's shared operations can do: lookups, custody, records, groups and release, one lemma each. -/

namespace Sys2Proof.Machine

variable (s : State)

/-! ### Change bits and notices -/

theorem State.markChange_eq (slot : Nat) : s.markChange slot = { s with cn := s.cn.marked slot } := rfl

theorem State.setNotice_eq (n : Notice) : s.setNotice n = { s with cn := s.cn.noticed (noticeBit n) } := by
  cases n <;> rfl

theorem State.noteLate_eq : s.noteLate = { s with cn := s.cn.lateOnce } := rfl

theorem State.countMalformed_eq : s.countMalformed = { s with cn := s.cn.malformedOnce } := rfl

/-! ### Slots and records -/

theorem State.recordAt_putRecord (slot i : Nat) (r : Record) (h : slot < s.ros.table.length) :
    (s.putRecord slot r).recordAt i = if i = slot then some r else s.recordAt i := by
  show ((s.ros.table.set slot (some r))[i]?).join = _
  by_cases hi : i = slot
  · subst hi; rw [if_pos rfl, List.getElem?_set_self h]; rfl
  · rw [if_neg hi, List.getElem?_set_ne (Ne.symm hi)]; rfl

theorem State.recordAt_lt (slot : Nat) (r : Record) (h : s.recordAt slot = some r) : slot < s.ros.table.length := by
  by_contra hc
  simp [State.recordAt, List.getElem?_eq_none (Nat.le_of_not_lt hc)] at h

/-- A lookup that finds a record finds the lowest slot whose record passes the test. -/
theorem State.findRecord_some (p : Record → Bool) (slot : Nat) (r : Record) (h : s.findRecord p = some (slot, r)) :
    s.recordAt slot = some r ∧ p r = true ∧ ∀ i < slot, ∀ x, s.recordAt i = some x → p x = false := by
  unfold State.findRecord at h
  split at h
  · rename_i i hi
    obtain ⟨hlt, hp, hm⟩ := List.findIdx?_eq_some_iff_getElem.1 hi
    rcases hx : s.recordAt i with _ | x
    · simp [hx] at h
    · simp only [hx, Option.map_some, Option.some.injEq, Prod.mk.injEq] at h
      obtain ⟨rfl, rfl⟩ := h
      have e : s.ros.table[i] = some x := by simpa [State.recordAt, List.getElem?_eq_getElem hlt] using hx
      refine ⟨hx, by simpa [e, slotHas] using hp, fun j hj y hy => ?_⟩
      have hjl : j < s.ros.table.length := by omega
      have e2 : s.ros.table[j] = some y := by simpa [State.recordAt, List.getElem?_eq_getElem hjl] using hy
      simpa [e2, slotHas] using hm j hj
  · simp at h

/-- A lookup that finds nothing leaves no record that passes the test. -/
theorem State.findRecord_none (p : Record → Bool) (h : s.findRecord p = none) (slot : Nat) (r : Record)
    (hr : s.recordAt slot = some r) : p r = false := by
  have hlt := s.recordAt_lt slot r hr
  have e : s.ros.table[slot] = some r := by simpa [State.recordAt, List.getElem?_eq_getElem hlt] using hr
  unfold State.findRecord at h
  split at h
  · rename_i i hi
    obtain ⟨hil, hp, _⟩ := List.findIdx?_eq_some_iff_getElem.1 hi
    simp only [Option.map_eq_none_iff] at h
    simp only [State.recordAt, List.getElem?_eq_getElem hil, Option.join_some] at h
    rw [h] at hp; simp [slotHas] at hp
  · rename_i hn
    have := List.findIdx?_eq_none_iff.1 hn _ (List.getElem_mem hlt)
    simpa [e, slotHas] using this

theorem State.findUid_some (u : Uid) (slot : Nat) (r : Record) (h : s.findUid u = some (slot, r)) :
    s.recordAt slot = some r ∧ r.uid = u := by
  have := s.findRecord_some _ slot r h
  exact ⟨this.1, by simpa using this.2.1⟩

theorem State.findAddr_some (a slot : Nat) (r : Record) (h : s.findAddr a = some (slot, r)) :
    s.recordAt slot = some r ∧ r.address = some a := by
  have := s.findRecord_some _ slot r h
  exact ⟨this.1, by simpa using this.2.1⟩

/-- The slot for a new record is VACANT, and every lower one is occupied (R2). -/
theorem State.vacantSlot_some (slot : Nat) (h : s.vacantSlot = some slot) :
    slot < s.ros.table.length ∧ s.recordAt slot = none ∧ ∀ i < slot, (s.recordAt i).isSome = true := by
  obtain ⟨hlt, hp, hm⟩ := List.findIdx?_eq_some_iff_getElem.1 h
  refine ⟨hlt, ?_, fun i hi => ?_⟩
  · simpa [State.recordAt, List.getElem?_eq_getElem hlt] using hp
  · have hil : i < s.ros.table.length := by omega
    have := hm i hi
    simp only [State.recordAt, List.getElem?_eq_getElem hil, Option.join_some]
    rcases hx : s.ros.table[i] with _ | x
    · rw [hx] at this; simp at this
    · rfl

/-! ### Custody -/

/-- An address given up changes the roster only. -/
theorem State.giveUp_eq (a : Nat) (u : Uid) : s.giveUp a u = { s with ros := s.ros.gaveUp s.cfg.holdTime a u } := by
  unfold State.giveUp Roster.gaveUp; split <;> rfl

theorem State.giveUpOf_eq (r : Record) :
    s.giveUpOf r = { s with
      ros := match r.address with
        | some a => s.ros.gaveUp s.cfg.holdTime a r.uid
        | none => s.ros } := by
  unfold State.giveUpOf; split <;> simp_all [State.giveUp_eq]

/-- A claim that succeeds takes the address out of the free list, or out of an item that remembers the UID. -/
theorem claim_some (a : Nat) (u : Uid) (c c' : Custody) (h : claim a u c = some c') :
    (a ∈ c.1 ∧ c' = (c.1.erase a, c.2)) ∨
    (a ∉ c.1 ∧ (∃ i ∈ c.2, i.address = a ∧ i.uid = u) ∧
      c' = (c.1, c.2.eraseP fun i => i.address == a && i.uid == u)) := by
  unfold claim at h
  split at h
  · rename_i hm; exact .inl ⟨hm, by simpa using h.symm⟩
  · rename_i hm
    split at h
    · rename_i ha
      refine .inr ⟨hm, ?_, by simpa using h.symm⟩
      simpa using ha
    · cases h

/-- An assignment that succeeds is one of the steps 1 to 4 of R26. -/
theorem assign_some (held : Option Nat) (u : Uid) (p a : Nat) (c c' : Custody) (h : assign held u p c = some (a, c')) :
    (held = some a ∧ c' = c) ∨
    (held = none ∧ (∃ i, c.2.find? (fun i => i.uid == u) = some i ∧ i.address = a) ∧
      c' = (c.1, c.2.eraseP fun i => i.uid == u)) ∨
    (held = none ∧ c.2.find? (fun i => i.uid == u) = none ∧ a = p ∧ 1 ≤ p ∧ p ≤ 60 ∧ p ∈ c.1 ∧ c' = (c.1.erase p, c.2)) ∨
    (held = none ∧ c.2.find? (fun i => i.uid == u) = none ∧ ∃ rest, c.1 = a :: rest ∧ c' = (rest, c.2)) := by
  unfold assign at h
  split at h
  · simp only [Option.some.injEq, Prod.mk.injEq] at h
    exact .inl ⟨by rw [h.1], h.2.symm⟩
  · split at h
    · rename_i i hi
      simp only [Option.some.injEq, Prod.mk.injEq] at h
      exact .inr (.inl ⟨rfl, ⟨i, hi, h.1⟩, h.2.symm⟩)
    · rename_i hn
      split at h
      · rename_i hp
        simp only [Option.some.injEq, Prod.mk.injEq] at h
        simp only [assignable, Bool.and_eq_true, decide_eq_true_eq] at hp
        exact .inr (.inr (.inl ⟨rfl, hn, h.1.symm, hp.1.1, hp.1.2, hp.2, h.2.symm⟩))
      · split at h
        · rename_i b rest hf
          simp only [Option.some.injEq, Prod.mk.injEq] at h
          exact .inr (.inr (.inr ⟨rfl, hn, rest, by rw [hf, h.1], h.2.symm⟩))
        · cases h

/-! ### Records and groups -/

theorem State.change_eq (slot : Nat) (r : Record) :
    s.change slot r = { s with
      ros := { s.ros with table := s.ros.table.set slot (some r) }, cn := s.cn.marked slot } := rfl

theorem State.create_eq (slot : Nat) (r : Record) :
    s.create slot r = { s with
      ros := { s.ros with table := s.ros.table.set slot (some r), apq := s.ros.apq.eraseP fun i => i.uid == r.uid }
      cn := s.cn.marked slot } := rfl

/-- A slot that holds a record joins a group at both tails (R109). -/
theorem State.joinGroup_eq (slot g : Nat) (r : Record) (h : s.recordAt slot = some r) :
    s.joinGroup slot g = { s with
      ros := { s.ros with
        table := s.ros.table.set slot (some { r with groups := r.groups ++ [g] })
        groups := s.ros.groups.modify g fun x => { x with members := (s.group g).members ++ [slot] } }
      cn := s.cn.marked slot } := by
  unfold State.joinGroup; rw [h]; rfl

/-- A slot that holds a record leaves a group, both orders kept (R109). -/
theorem State.leaveGroup_eq (slot g : Nat) (r : Record) (h : s.recordAt slot = some r) :
    s.leaveGroup slot g = { s with
      ros := { s.ros with
        table := s.ros.table.set slot (some { r with groups := r.groups.erase g })
        groups := s.ros.groups.modify g fun x => { x with members := (s.group g).members.erase slot } }
      cn := s.cn.marked slot } := by
  unfold State.leaveGroup State.dropGroup; rw [h]; rfl

/-- A slot that holds no record leaves a group's member list only. -/
theorem State.leaveGroup_vacant (slot g : Nat) (h : s.recordAt slot = none) :
    s.leaveGroup slot g = { s with
      ros := { s.ros with
        groups := s.ros.groups.modify g fun x => { x with members := (s.group g).members.erase slot } }
      cn := s.cn.marked slot } := by
  unfold State.leaveGroup State.dropGroup; rw [h]; rfl

theorem State.remove_eq (slot : Nat) :
    s.remove slot = { s with
      ros := { s.ros with
        table := s.ros.table.set slot none
        groups := s.ros.groups.map fun x => { x with members := x.members.erase slot } }
      cn := s.cn.marked slot } := rfl

/-- The release rule on a record that holds an address (R52 to R55). -/
theorem State.releaseRecord_eq (slot a : Nat) (r : Record) (h : r.address = some a) :
    s.releaseRecord slot r = { s with
      ros := s.ros.released s.cfg.holdTime slot r a, cn := s.cn.marked slot } := by
  unfold State.releaseRecord Roster.released
  rcases r.origin <;> rcases r.reserved <;> simp only [State.giveUpOf_eq, h] <;> rfl

end Sys2Proof.Machine
end

