-- ==== Sys2Proof/Laws/Time.lean ====
section
/-! SUPPORT. What the passing of time does to a state: one equation, and what it leaves alone. -/

namespace Sys2Proof.Machine

variable (d t : Nat) (s : State)

/-- In reset only line time moves. -/
theorem State.advance_inReset (h : s.inReset = true) : s.advance d = { s with now := s.now + d } := by
  unfold State.advance; simp only [h]; rfl

/-- Out of reset time moves line time, the start-up interval, the clocks, the roster's timers, the character assembler and
LTX, and nothing else. -/
theorem State.advance_eq (h : s.inReset = false) :
    s.advance d = { s with
      now := s.now + d
      startUp := s.startUp && decide (s.now + d < startUpLimit)
      clk := s.clk.run s.ctl.mode (beaconPeriods s.cfg.beaconPeriod) d
      ros := s.ros.lower (s.clk.seconds s.ctl.mode d)
      lrx := s.lrx.settle s.cfg.lineRate (s.now + d)
      ltx := { s.ltx with
        state := settleLtx s.cfg.lineRate (s.now + d) s.ltx.state
        beaconPending := s.ltx.beaconPending || s.clk.makesBeaconDue s.ctl.mode d } } := by
  unfold State.advance; simp only [h]; rfl

/-- Time leaves the frame assembler, the silence measure and the own-frame span alone (R122, R123). -/
@[simp] theorem Lrx.settle_fields (rate now : Nat) (l : Lrx) :
    (l.settle rate now).frm = l.frm ∧ (l.settle rate now).sil = l.sil ∧ (l.settle rate now).quiet = l.quiet := by
  unfold Lrx.settle
  rcases l.chr with _ | ⟨e, w⟩ | ⟨e, w⟩
  · exact ⟨rfl, rfl, rfl⟩
  · dsimp only; split <;> exact ⟨rfl, rfl, rfl⟩
  · exact ⟨rfl, rfl, rfl⟩

/-- The character assembler keeps its character while time passes (R122). -/
@[simp] theorem Lrx.settle_wave (rate now : Nat) (l : Lrx) : (l.settle rate now).chr.wave = l.chr.wave := by
  unfold Lrx.settle
  rcases h : l.chr with _ | ⟨e, w⟩ | ⟨e, w⟩ <;> dsimp only
  · rw [h]
  · split
    · rfl
    · rw [h]

/-- The fields that time leaves alone, in reset and out of it. -/
theorem State.advance_fields :
    (s.advance d).now = s.now + d ∧ (s.advance d).inReset = s.inReset ∧ (s.advance d).ctl = s.ctl ∧
    (s.advance d).cfg = s.cfg ∧ (s.advance d).rxq = s.rxq ∧ (s.advance d).txq = s.txq ∧
    (s.advance d).completions = s.completions ∧ (s.advance d).hp = s.hp ∧ (s.advance d).cu = s.cu ∧
    (s.advance d).cn = s.cn ∧ (s.advance d).pending = s.pending ∧
    (s.advance d).lrx.frm = s.lrx.frm ∧ (s.advance d).lrx.sil = s.lrx.sil ∧ (s.advance d).lrx.quiet = s.lrx.quiet ∧
    (s.advance d).ltx.tail = s.ltx.tail := by
  cases h : s.inReset
  · rw [s.advance_eq d h]
    exact ⟨rfl, h, rfl, rfl, rfl, rfl, rfl, rfl, rfl, rfl, rfl, (Lrx.settle_fields _ _ _).1,
      (Lrx.settle_fields _ _ _).2.1, (Lrx.settle_fields _ _ _).2.2, rfl⟩
  · rw [s.advance_inReset d h]
    exact ⟨rfl, h, rfl, rfl, rfl, rfl, rfl, rfl, rfl, rfl, rfl, rfl, rfl, rfl, rfl⟩

@[simp] theorem State.advance_now : (s.advance d).now = s.now + d := (s.advance_fields d).1
@[simp] theorem State.advance_inReset_field : (s.advance d).inReset = s.inReset := (s.advance_fields d).2.1
@[simp] theorem State.advance_ctl : (s.advance d).ctl = s.ctl := (s.advance_fields d).2.2.1
@[simp] theorem State.advance_cfg : (s.advance d).cfg = s.cfg := (s.advance_fields d).2.2.2.1
@[simp] theorem State.advance_rxq : (s.advance d).rxq = s.rxq := (s.advance_fields d).2.2.2.2.1
@[simp] theorem State.advance_txq : (s.advance d).txq = s.txq := (s.advance_fields d).2.2.2.2.2.1
@[simp] theorem State.advance_completions : (s.advance d).completions = s.completions :=
  (s.advance_fields d).2.2.2.2.2.2.1
@[simp] theorem State.advance_hp : (s.advance d).hp = s.hp := (s.advance_fields d).2.2.2.2.2.2.2.1
@[simp] theorem State.advance_cu : (s.advance d).cu = s.cu := (s.advance_fields d).2.2.2.2.2.2.2.2.1
@[simp] theorem State.advance_cn : (s.advance d).cn = s.cn := (s.advance_fields d).2.2.2.2.2.2.2.2.2.1
@[simp] theorem State.advance_pending : (s.advance d).pending = s.pending := (s.advance_fields d).2.2.2.2.2.2.2.2.2.2.1
@[simp] theorem State.advance_frm : (s.advance d).lrx.frm = s.lrx.frm := (s.advance_fields d).2.2.2.2.2.2.2.2.2.2.2.1
@[simp] theorem State.advance_sil : (s.advance d).lrx.sil = s.lrx.sil := (s.advance_fields d).2.2.2.2.2.2.2.2.2.2.2.2.1
@[simp] theorem State.advance_quiet : (s.advance d).lrx.quiet = s.lrx.quiet :=
  (s.advance_fields d).2.2.2.2.2.2.2.2.2.2.2.2.2.1
@[simp] theorem State.advance_tail : (s.advance d).ltx.tail = s.ltx.tail :=
  (s.advance_fields d).2.2.2.2.2.2.2.2.2.2.2.2.2.2

/-! ### The clocks and the roster's timers -/

/-- No second event leaves a record alone. -/
@[simp] theorem Record.lower_zero (r : Record) : r.lower 0 = r := by
  unfold Record.lower; cases r with | mk => rename Option Nat => m; cases m <;> rfl

/-- No second event leaves a hold-down item alone. -/
@[simp] theorem HoldItem.lower_zero (i : HoldItem) : i.lower 0 = i := by
  simp [HoldItem.lower]

/-- No second event leaves the roster alone. -/
@[simp] theorem Roster.lower_zero (r : Roster) : r.lower 0 = r := by
  have h1 : Record.lower 0 = id := funext fun r => Record.lower_zero r
  have h2 : HoldItem.lower 0 = id := funext fun i => HoldItem.lower_zero i
  unfold Roster.lower; simp [h1, h2]

/-- Second events keep the place of every record, the collections' sizes and orders, the free list and the groups. -/
theorem Roster.lower_fields (n : Nat) (r : Roster) :
    (r.lower n).table = r.table.map (Option.map (Record.lower n)) ∧ (r.lower n).free = r.free ∧
    (r.lower n).hold = r.hold.map (HoldItem.lower n) ∧ (r.lower n).groups = r.groups ∧
    (r.lower n).hold.map HoldItem.address = r.hold.map HoldItem.address ∧
    (r.lower n).apq.map ApqItem.uid = r.apq.map ApqItem.uid := by
  refine ⟨rfl, rfl, rfl, rfl, ?_, ?_⟩ <;> simp [Roster.lower, HoldItem.lower, Function.comp_def]

/-- The roster clock's phase stays within its second (R59). -/
theorem Clocks.run_phase (mode : Mode) (next d : Nat) (c : Clocks) (h : c.phase < secondPeriods) :
    (c.run mode next d).phase < secondPeriods := by
  cases mode
  · exact h
  · exact Nat.mod_lt _ (by decide)

/-- In HELD neither clock runs, no second completes and no beacon falls due (R59, R62, R146). -/
@[simp] theorem Clocks.run_held (next d : Nat) (c : Clocks) : c.run .held next d = c := rfl
@[simp] theorem Clocks.seconds_held (d : Nat) (c : Clocks) : c.seconds .held d = 0 := rfl
@[simp] theorem Clocks.makesBeaconDue_held (d : Nat) (c : Clocks) : c.makesBeaconDue .held d = false := rfl

/-- In HELD time leaves the clocks, the roster and the pending beacon alone (R62, R146). -/
theorem State.advance_held (h : s.ctl.mode = .held) :
    (s.advance d).clk = s.clk ∧ (s.advance d).ros = s.ros ∧ (s.advance d).ltx.beaconPending = s.ltx.beaconPending := by
  cases hr : s.inReset
  · rw [s.advance_eq d hr]; simp [h]
  · rw [s.advance_inReset d hr]; exact ⟨rfl, rfl, rfl⟩

/-- The start-up interval does not begin again. -/
theorem State.advance_startUp (h : s.startUp = false) : (s.advance d).startUp = false := by
  unfold State.advance; dsimp only; split <;> simp [h]

/-- Line time run to an instant that has passed stands where it was. -/
@[simp] theorem State.advanceTo_now : (s.advanceTo t).now = max s.now t := by
  unfold State.advanceTo; rw [State.advance_now]; omega

/-- LTX changes with time only while it sends. -/
theorem settleLtx_of_not_sending (rate now : Nat) (l : LtxState) (h : ∀ a, l ≠ .sending a) : settleLtx rate now l = l := by
  unfold settleLtx; split
  · exact absurd rfl (h _)
  · rfl

/-- What an attempt sends is kept while it runs. -/
theorem settleAttempt_fields (rate now : Nat) (a : Attempt) :
    (settleAttempt rate now a).kind = a.kind ∧ (settleAttempt rate now a).bytes = a.bytes ∧
    (settleAttempt rate now a).abortAtEnd = a.abortAtEnd := by
  unfold settleAttempt; split <;> exact ⟨rfl, rfl, rfl⟩

/-- LTX stays in the state it is in while time passes, but for the character it drives. -/
theorem settleLtx_cases (rate now : Nat) (l : LtxState) :
    settleLtx rate now l = l ∨ ∃ a, l = .sending a ∧ settleLtx rate now l = .sending (settleAttempt rate now a) := by
  cases l with
  | sending a => exact .inr ⟨a, rfl, rfl⟩
  | ready => exact .inl rfl
  | backoff k aborted => exact .inl rfl
  | window c => exact .inl rfl

end Sys2Proof.Machine
end

