-- ==== Sys2Proof/Laws/Commands.lean ====
section
/-! SUPPORT. Serving a host command, serving an expiry, and the parts of a transaction: what each can do. -/

namespace Sys2Proof.Machine

variable (s : State)

/-- A command that passed the check is served, and its result goes to the result buffer (R170). -/
theorem State.serveCommand_serving (code : Byte) (args : List Byte) (run : List Byte → State → Result × State)
    (h : Serving code args s) : s.serveCommand code run = (run args s).2.setCu (.ready (run args s).1) := by
  obtain ⟨h1, h2, h3⟩ := h
  simp [State.serveCommand, h1, h2, h3]

/-- Serving leaves the state as it is, or serves a waiting command of the code. -/
theorem State.serveCommand_cases (code : Byte) (run : List Byte → State → Result × State) :
    s.serveCommand code run = s ∨
    ∃ args, Serving code args s ∧ s.serveCommand code run = (run args s).2.setCu (.ready (run args s).1) := by
  unfold State.serveCommand
  split
  · exact .inl rfl
  · rename_i h0
    split
    · rename_i c args hc
      split
      · rename_i h
        refine .inr ⟨args, ⟨by simpa using h0, by rw [hc, h.1], ?_⟩, rfl⟩
        rw [← h.1]; exact h.2
      · exact .inl rfl
    · exact .inl rfl

/-- A command refused for its arguments or the state it meets changes the result buffer only (R174). -/
theorem State.setCu_result (c : ResultCode) : s.setCu (.ready (result c)) = s.resulted c [] := rfl

/-- Serving an expiry leaves the state as it is, or acts on a slot's record in the state with its timer at 0. -/
theorem State.serveExpiry_cases (slot : Nat) (st : RecState) (act : Record → State → State) :
    s.serveExpiry slot st act = s ∨
    ∃ r, s.inReset = false ∧ s.recordAt slot = some r ∧ r.state = st ∧ r.remaining = some 0 ∧
      s.serveExpiry slot st act = act r s := by
  unfold State.serveExpiry
  split
  · exact .inl rfl
  · rename_i h0
    split
    · rename_i r hr
      split
      · rename_i h; exact .inr ⟨r, by simpa using h0, hr, h.1, h.2, rfl⟩
      · exact .inl rfl
    · exact .inl rfl

/-! ### Transactions (10.1) -/

/-- Time leaves the status byte as it is. -/
@[simp] theorem State.advance_statusByte (d : Nat) : (s.advance d).statusByte = s.statusByte := by
  simp only [State.statusByte, State.advance_ctl, State.advance_cu, State.advance_cn, State.advance_hp]

/-- Out of reset and past the start-up interval the port stays ready. -/
theorem State.advance_portReady (d : Nat) (h : s.inReset = false) (h' : s.startUp = false) :
    (s.advance d).portReady = true := by
  simp [State.portReady, State.advance_startUp, *]

/-- A transaction's end clears nothing but the transaction and what its own rule names. -/
theorem State.portDeselect_cases (code : Byte) (finish : Txn → State → State) :
    s.portDeselect code finish = s ∨ s.portDeselect code finish = s.setHp { s.hp with txn := none } ∨
    ∃ t, s.hp.txn = some t ∧ t.code = some code ∧
      s.portDeselect code finish = finish t (s.setHp { s.hp with txn := none }) := by
  unfold State.portDeselect
  split
  · rename_i t ht
    dsimp only
    split
    · exact .inr (.inl rfl)
    · split
      · rename_i hc; exact .inr (.inr ⟨t, ht, hc, rfl⟩)
      · exact .inl rfl
  · exact .inl rfl

end Sys2Proof.Machine
end

