-- ==== Sys2Proof/Laws/Line.lean ====
section
/-! SUPPORT. The line: the echo check, the frame assembler, and the choices of the transmitter. -/

namespace Sys2Proof.Machine

variable (s : State)

/-- A character, or a framing error, changes only LTX's echo (R142). -/
theorem State.hearEcho_eq (x : Option (Byte × Bool)) : s.hearEcho x = { s with ltx := s.ltx.hears x s.now } := by
  unfold State.hearEcho Ltx.hears
  rcases hl : s.ltx.state with _ | a | _ | _ <;> simp only
  rcases he : a.echo with _ | e
  · simp only [State.setLtx, Drive.finish, ↓reduceIte]
    rcases x with _ | x
    · simp
    · by_cases hx : x = (a.drive.byte, a.drive.mark)
      · subst hx; simp; rfl
      · simp [hx]
  · simp

/-- The order of LRX's steps at a character: time, the frame assembler, the echo, and the end of the character. -/
theorem State.handCharacter_eq (w : CharWave) (edge : Nat) :
    s.handCharacter w edge =
      let base := s.advanceTo (edge + handOn s.cfg.lineRate)
      let finish := edge + tChar s.cfg.lineRate
      let x := if waveMark w then base.assembleMarked (waveByte w) else base.assembleUnmarked (waveByte w) finish
      { x with
        lrx := { x.lrx with chr := .waiting, bits := waveReceived w 9, sil := .since finish }
        ltx := x.ltx.hears (some (waveByte w, waveMark w)) x.now } := by
  unfold State.handCharacter
  simp only [State.hearEcho_eq]; rfl

/-- A marked character begins a frame and counts a station's frame it cuts short (R126). -/
theorem State.assembleMarked_eq (b : Byte) :
    s.assembleMarked b = { s with
      lrx := { s.lrx with frm := beginFrame b s.ownSpan }
      cn := match s.lrx.frm with
        | .assembling a => if a.own then s.cn else s.cn.malformedOnce
        | _ => s.cn } := by
  unfold State.assembleMarked
  rcases hf : s.lrx.frm with _ | a | _ <;> simp only <;> try rfl
  unfold State.countMalformedUnless
  rcases a.own <;> rfl

/-- A gap past tGAP leaves the frame assembler OUTSIDE and counts a station's frame (R128). -/
theorem State.truncateFrame_eq :
    s.truncateFrame = { s with
      lrx := { s.lrx with frm := .outside }
      cn := match s.lrx.frm with
        | .assembling a => if a.own then s.cn else s.cn.malformedOnce
        | _ => s.cn } := by
  unfold State.truncateFrame
  rcases hf : s.lrx.frm with _ | a | _ <;> simp only
  · rw [show ({ s.lrx with frm := FrameAsm.outside } : Lrx) = s.lrx by rw [← hf]]
  · unfold State.countMalformedUnless
    rcases a.own <;> rfl
  · rfl

/-- What a silence that began at an instant has done by the present one (R128, R139, R150). -/
theorem State.settleSilence_eq (t : Nat) (h : s.lrx.sil = .since t) :
    s.settleSilence = { s with
      lrx := { s.lrx with
        frm := if tGap s.cfg.lineRate < s.now - t then .outside else s.lrx.frm
        quiet := settleQuiet t s.now s.lrx.quiet }
      ltx := { s.ltx with state := s.ltx.state.settleBackoff s.cfg.lineRate t s.now }
      cn := match s.lrx.frm with
        | .assembling a => if tGap s.cfg.lineRate < s.now - t ∧ a.own = false then s.cn.malformedOnce else s.cn
        | _ => s.cn } := by
  have silence : s.silence = s.now - t := by unfold State.silence; rw [h]
  unfold State.settleSilence
  simp only [h, silence, s.truncateFrame_eq]
  by_cases gap : tGap s.cfg.lineRate < s.now - t <;> rcases hf : s.lrx.frm with _ | a | _ <;>
    simp only [gap, if_true, if_false, true_and, false_and, State.setLtx, State.setLrx, h, hf]
  rcases a.own <;> rfl

/-- RXQ admission: the request at the tail, or an overrun; a quiet one moves no counter (R130, R133). -/
theorem State.admitToRxq_eq (r : Request) (quiet : Bool) :
    s.admitToRxq r quiet =
      if s.rxq.length < 4 then
        { s with
          rxq := s.rxq ++ [r]
          cn := if quiet then s.cn else
            { s.cn with counters := { s.cn.counters with accepted := min (s.cn.counters.accepted + 1) 65535 } } }
      else
        { s with
          cn := Cn.noticed 3 (if quiet then s.cn else
            { s.cn with counters := { s.cn.counters with overruns := min (s.cn.counters.overruns + 1) 65535 } }) } := by
  unfold State.admitToRxq; cases quiet <;> split <;> rfl

/-! ### The transmitter's choices -/

/-- With an ANSWER whose deadline has not passed, there is a choice (R140). -/
theorem bestAnswer_ne_none (t : Nat) (q : List Entry) (k m : Nat) (x : Entry) (dx : Nat) (hx : q[m]? = some x)
    (hk : x.kind = .answer dx) (ht : t ≤ dx) : bestAnswer t q k ≠ none := by
  induction q generalizing k m with
  | nil => simp at hx
  | cons e rest ih =>
    unfold bestAnswer
    cases m with
    | zero =>
      simp only [List.getElem?_cons_zero, Option.some.injEq] at hx; subst hx
      rw [hk]; simp only [if_pos ht]
      split
      · split <;> simp
      · simp
    | succ m =>
      have hr := ih (k + 1) m (by simpa using hx)
      split
      · split
        · split
          · split <;> simp
          · simp
        · exact hr
      · exact hr

/-- The place that `bestAnswer` gives holds an ANSWER whose deadline has not passed; every other such one is later, or as
late and no nearer the head (R140). -/
theorem bestAnswer_some (t : Nat) (q : List Entry) (k i d : Nat) (h : bestAnswer t q k = some (i, d)) :
    ∃ n e, i = k + n ∧ q[n]? = some e ∧ e.kind = .answer d ∧ t ≤ d ∧
      ∀ (m : Nat) (x : Entry) (dx : Nat), q[m]? = some x → x.kind = .answer dx → t ≤ dx → d < dx ∨ d = dx ∧ n ≤ m := by
  induction q generalizing k i d with
  | nil => simp [bestAnswer] at h
  | cons e rest ih =>
    have pass : ∀ {i d}, bestAnswer t rest (k + 1) = some (i, d) → (∀ dx, e.kind = .answer dx → t ≤ dx → d < dx) →
        ∃ n x, i = k + n ∧ (e :: rest)[n]? = some x ∧ x.kind = .answer d ∧ t ≤ d ∧
          ∀ (m : Nat) (y : Entry) (dx : Nat), (e :: rest)[m]? = some y → y.kind = .answer dx → t ≤ dx →
            d < dx ∨ d = dx ∧ n ≤ m := by
      intro i d hr he
      obtain ⟨n, x, hi, hx, hk, ht, hm⟩ := ih _ _ _ hr
      refine ⟨n + 1, x, by omega, by simpa using hx, hk, ht, ?_⟩
      intro m y dx hy hyk hyt
      cases m with
      | zero => simp only [List.getElem?_cons_zero, Option.some.injEq] at hy; subst hy; exact .inl (he dx hyk hyt)
      | succ m =>
        rcases hm m y dx (by simpa using hy) hyk hyt with h | h
        · exact .inl h
        · exact .inr ⟨h.1, by omega⟩
    unfold bestAnswer at h
    split at h
    · rename_i d0 hk
      split at h
      · rename_i ht
        have here : ∀ {i d}, (some (k, d0) : Option (Nat × Nat)) = some (i, d) →
            (∀ (m : Nat) (y : Entry) (dx : Nat), rest[m]? = some y → y.kind = .answer dx → t ≤ dx → d0 ≤ dx) →
            ∃ n x, i = k + n ∧ (e :: rest)[n]? = some x ∧ x.kind = .answer d ∧ t ≤ d ∧
              ∀ (m : Nat) (y : Entry) (dx : Nat), (e :: rest)[m]? = some y → y.kind = .answer dx → t ≤ dx →
                d < dx ∨ d = dx ∧ n ≤ m := by
          intro i d hs hr
          simp only [Option.some.injEq, Prod.mk.injEq] at hs
          obtain ⟨rfl, rfl⟩ := hs
          refine ⟨0, e, rfl, rfl, hk, ht, ?_⟩
          intro m y dx hy hyk hyt
          cases m with
          | zero =>
            simp only [List.getElem?_cons_zero, Option.some.injEq] at hy; subst hy
            rw [hk] at hyk; cases hyk; exact .inr ⟨rfl, Nat.le_refl _⟩
          | succ m =>
            have := hr m y dx (by simpa using hy) hyk hyt
            omega
        split at h
        · rename_i j dj hr
          split at h
          · rename_i hlt
            have hji : j = i ∧ dj = d := by simpa using h
            obtain ⟨rfl, rfl⟩ := hji
            refine pass hr fun dx hx _ => ?_
            rw [hk] at hx; cases hx; exact hlt
          · rename_i hge
            refine here h fun m y dx hy hyk hyt => ?_
            obtain ⟨n, x, _, hx, hxk, hxt, hm⟩ := ih _ _ _ hr
            have := hm m y dx hy hyk hyt; omega
        · rename_i hr
          refine here h fun m y dx hy hyk hyt => ?_
          exact absurd hr (bestAnswer_ne_none t rest (k + 1) m y dx hy hyk hyt)
      · rename_i ht
        refine pass h fun dx hx hxt => ?_
        rw [hk] at hx; cases hx; exact absurd hxt ht
    · rename_i hk
      exact pass h fun dx hx _ => absurd hx (hk dx)

/-- The first entry marked as in the attempt is the one LTX is sending. -/
theorem State.attemptEntry_eq (before after : List Entry) (e : Entry) (h : s.txq = before ++ e :: after)
    (he : e.inAttempt = true) (hb : ∀ x ∈ before, x.inAttempt = false) :
    s.attemptEntry = some (before.length, e) := by
  have hi : s.txq.findIdx? Entry.inAttempt = some before.length := by
    rw [h, List.findIdx?_append, List.findIdx?_eq_none_iff.2 (fun x hx => hb x hx)]
    simp [List.findIdx?_cons, he]
  unfold State.attemptEntry
  rw [hi, h]; simp

end Sys2Proof.Machine
end

