-- ==== Sys2Proof/Laws/Requests.lean ====
section
/-! SUPPORT. Taking a request and answering it: what the shared operations of chapter 9 can do. -/

namespace Sys2Proof.Machine

variable (r : Request) (s : State)

/-! ### Answers (9.4) -/

theorem answerDest_of_join (h : r.code = 0x01) : answerDest r = 61 := by unfold answerDest; rw [if_pos h]

theorem answerDest_of_source (h : r.code ≠ 0x01) : answerDest r = r.source := by unfold answerDest; rw [if_neg h]

/-- An answer to a JOIN leads with the UID. -/
theorem leadUid_of_join (h : r.code = 0x01) (hl : requestLength r.code = some r.payload.length) :
    leadUid r = uidBytes r.uid := by
  unfold leadUid answerDest; rw [if_pos]; rw [if_pos h]; exact ⟨rfl, by rw [h]; rfl, hl⟩

/-- An answer to another address than 61 leads with nothing. -/
theorem leadUid_of_source (hs : r.source ≠ 61) (h : r.code ≠ 0x01) : leadUid r = [] := by
  unfold leadUid answerDest; rw [if_neg]; rw [if_neg h]; exact fun x => hs x.1

theorem State.ack_eq (hs : r.source ≠ 61) (h : r.code ≠ 0x01) (bs : List Byte) :
    s.ack r bs = { s with txq := s.txq ++ [answered r r.source 0x80 bs] } := by
  simp only [State.ack, answerEntry, leadUid_of_source r hs h, answerDest_of_source r h]; rfl

theorem State.refuse_eq (hs : r.source ≠ 61) (h : r.code ≠ 0x01) (x : Reason) :
    s.refuse r x = { s with txq := s.txq ++ [answered r r.source 0x82 [byte (reasonNumber x)]] } := by
  simp only [State.refuse, answerEntry, leadUid_of_source r hs h, answerDest_of_source r h]; rfl

theorem State.plainAck_eq (hs : r.source ≠ 61) (h : r.code ≠ 0x01) :
    s.plainAck r = { s with txq := s.txq ++ [answered r r.source 0x80 (be16 s.ctl.epoch.toNat)] } :=
  s.ack_eq r hs h _

theorem State.bindingAck_eq (hs : r.source ≠ 61) (h : r.code ≠ 0x01) (rd : Record) :
    s.bindingAck r rd = { s with
      txq := s.txq ++ [answered r r.source 0x80
        (bindingBytes (if rd.pinned then 0 else s.cfg.leaseTime) rd.groups s.ctl.epoch.toNat)] } :=
  s.ack_eq r hs h _

theorem State.refuse_join_eq (h : r.code = 0x01) (hl : requestLength r.code = some r.payload.length) (x : Reason) :
    s.refuse r x = { s with txq := s.txq ++ [answered r 61 0x82 (uidBytes r.uid ++ [byte (reasonNumber x)])] } := by
  simp only [State.refuse, answerEntry, leadUid_of_join r h hl, answerDest_of_join r h]; rfl

theorem State.wait_join_eq (h : r.code = 0x01) (hl : requestLength r.code = some r.payload.length) (x : Nat) :
    s.wait r x = { s with
      txq := s.txq ++ [answered r 61 0x81 (uidBytes r.uid ++ [byte x, byte (s.cfg.beaconPeriod / 10)])] } := by
  simp only [State.wait, answerEntry, leadUid_of_join r h hl, answerDest_of_join r h]; rfl

theorem State.offer_eq (h : r.code = 0x01) (rd : Record) :
    s.offer r rd = { s with
      txq := s.txq ++ [answered r 61 0x83 (offerBytes rd.uid (rd.address.getD 0)
        (if rd.pinned then 0 else s.cfg.leaseTime) s.cfg.offerTime s.ctl.epoch.toNat)] } := by
  simp only [State.offer, answerEntry, answerDest_of_join r h]; rfl

/-! ### Taking (9.1) -/

/-- A deadline has not passed: the instant lies before it, or at it with the taking first. -/
theorem deadlinePassed_eq_false (d now : Nat) (b : Bool) :
    deadlinePassed d now b = false ↔ now < d ∨ now = d ∧ b = false := by
  unfold deadlinePassed; cases b <;> simp <;> omega

/-- A request of the kind at the head of RXQ, with room in TXQ, is taken and decided. -/
theorem State.takeRequest_taking (kind : Byte → Bool) (b : Bool) (serve : Request → State → State)
    (rest : List Request) (h : Taking r rest s) (hk : kind r.code = true) :
    s.takeRequest kind b serve = ({ s with rxq := rest } : State).decideRequest b serve r := by
  obtain ⟨h1, h2, h3⟩ := h
  unfold State.takeRequest
  rw [if_neg (by simp [h1])]; simp only [h2]; rw [if_pos (by simp [hk, h3])]; rfl

/-- Taking leaves the state as it is, or takes the head of RXQ with room in TXQ. -/
theorem State.takeRequest_cases (kind : Byte → Bool) (b : Bool) (serve : Request → State → State) :
    s.takeRequest kind b serve = s ∨
    ∃ q rest, Taking q rest s ∧ kind q.code = true ∧
      s.takeRequest kind b serve = ({ s with rxq := rest } : State).decideRequest b serve q := by
  by_cases h0 : s.inReset = true
  · exact .inl (by unfold State.takeRequest; rw [if_pos h0])
  · rcases hq : s.rxq with _ | ⟨q, rest⟩
    · exact .inl (by unfold State.takeRequest; rw [if_neg h0, hq])
    · by_cases hk : kind q.code = true ∧ s.txq.length < 6
      · have ht : Taking q rest s := ⟨by simpa using h0, hq, hk.2⟩
        exact .inr ⟨q, rest, ht, hk.1, State.takeRequest_taking q s kind b serve rest ht hk.1⟩
      · refine .inl ?_
        unfold State.takeRequest; rw [if_neg h0, hq]; dsimp only
        rw [if_neg (by simpa using hk)]

/-- A request that passes checks 0 to 6 is served by its owning rule (R152). -/
theorem State.takeRequest_heard (kind : Byte → Bool) (b : Bool) (serve : Request → State → State)
    (rest : List Request) (h : Taking r rest s) (hh : Heard b r s)
    (hb : lookupOrGroupCode r.code = true → s.boundSource r.source = true) (hk : kind r.code = true) :
    s.takeRequest kind b serve = serve r { s with rxq := rest } := by
  rw [State.takeRequest_taking r s kind b serve rest h hk]
  obtain ⟨h1, h2, h3, h4, h5, h6, h7⟩ := hh
  have hp := (deadlinePassed_eq_false r.deadline s.now b).2 h1
  unfold State.decideRequest State.admission
  rw [if_neg (by rw [hp]; decide), if_neg (by tauto), if_neg (by show ¬ s.ctl.mode = .held; rw [h5]; decide),
    if_neg (by rw [h6]; simp), if_neg (by rw [h6]; simp), if_neg (by tauto), if_neg]
  rintro ⟨x, y⟩
  have e : ({ s with rxq := rest } : State).boundSource r.source = s.boundSource r.source := rfl
  rw [e, hb x] at y; cases y

/-- What TC does with a request it takes: one of the seven outcomes of R152. -/
theorem State.decideRequest_cases (b : Bool) (serve : Request → State → State) :
    s.decideRequest b serve r = s.noteLate ∨ s.decideRequest b serve r = s.countMalformed ∨
    s.decideRequest b serve r = s.wait r 1 ∨ (∃ x, s.decideRequest b serve r = s.refuse r x) ∨
    (s.ctl.mode = .running ∧ requestLength r.code = some r.payload.length ∧
      s.decideRequest b serve r = serve r s) := by
  by_cases h0 : deadlinePassed r.deadline s.now b = true
  · exact .inl (by simp only [State.decideRequest, State.admission, if_pos h0])
  by_cases h1 : r.source = 0 ∨ r.source = 62 ∨ r.source = 63
  · exact .inr (.inl (by simp only [State.decideRequest, State.admission, if_neg h0, if_pos h1]))
  by_cases h2 : s.ctl.mode = .held
  · exact .inr (.inr (.inl (by simp only [State.decideRequest, State.admission, if_neg h0, if_neg h1, if_pos h2])))
  have hm : s.ctl.mode = .running := by
    rcases h : s.ctl.mode with _ | _
    · exact absurd h h2
    · rfl
  by_cases h3 : requestLength r.code = none
  · exact .inr (.inr (.inr (.inl ⟨_, by
      simp only [State.decideRequest, State.admission, if_neg h0, if_neg h1, if_neg h2, if_pos h3]; rfl⟩)))
  by_cases h4 : requestLength r.code ≠ some r.payload.length
  · exact .inr (.inr (.inr (.inl ⟨_, by
      simp only [State.decideRequest, State.admission, if_neg h0, if_neg h1, if_neg h2, if_neg h3, if_pos h4]; rfl⟩)))
  by_cases h5 : r.source = 61 ∧ r.code ≠ 0x01
  · exact .inr (.inr (.inr (.inl ⟨_, by
      simp only [State.decideRequest, State.admission, if_neg h0, if_neg h1, if_neg h2, if_neg h3, if_neg h4,
        if_pos h5]; rfl⟩)))
  by_cases h6 : lookupOrGroupCode r.code = true ∧ s.boundSource r.source = false
  · exact .inr (.inr (.inr (.inl ⟨_, by
      simp only [State.decideRequest, State.admission, if_neg h0, if_neg h1, if_neg h2, if_neg h3, if_neg h4, if_neg h5,
        if_pos h6]; rfl⟩)))
  refine .inr (.inr (.inr (.inr ⟨hm, by simpa using h4, ?_⟩)))
  simp only [State.decideRequest, State.admission, if_neg h0, if_neg h1, if_neg h2, if_neg h3, if_neg h4, if_neg h5,
    if_neg h6]

/-- A life-cycle code is no lookup or group code (R158). -/
theorem lookup_of_lifeCycle (code : Byte) (h : lifeCycleCode code = true) : lookupOrGroupCode code = false := by
  simp [lookupOrGroupCode, h]

end Sys2Proof.Machine
end

