-- ==== Sys2Proof/Tests/Slice0.lean ====
section
/-! SUPPORT. The model's own tests: the checks of `Instr.wf`, commands on small states with outcomes read off the spec's
rules and worked sequences, and for every obligation with hypotheses a state and operands that meet them. -/

namespace Sys2Proof.Tests

open Sys2Proof Sys2Proof.Machine

-- One thread: each theorem in flight takes a stack of its own.
set_option Elab.async false

/-! ### The checks of well-formed commands -/

theorem test_wf_refuses_slot_64 : (Instr.leaseExpiry 64).wf = false ∧ (Instr.graceExpiry 64).wf = false ∧
    (Instr.offerExpiry 64).wf = false ∧ (Instr.evictionCompletion 64).wf = false := by decide
theorem test_wf_refuses_unassignable_address : (Instr.holdDownExpiry 0).wf = false ∧
    (Instr.holdDownExpiry 61).wf = false := by decide
theorem test_wf_refuses_invalid_uid : (Instr.approvalExpiry 0).wf = false ∧
    (Instr.approvalExpiry (BitVec.allOnes 48)).wf = false := by decide
theorem test_wf_refuses_known_transaction_as_unknown : (Instr.unknownTransaction 0 1 .select).wf = false ∧
    (Instr.unknownTransaction 0 5 .select).wf = false := by decide
theorem test_wf_admits_the_limits : (Instr.leaseExpiry 63).wf = true ∧ (Instr.holdDownExpiry 1).wf = true ∧ (Instr.holdDownExpiry 60).wf = true ∧
    (Instr.unknownTransaction 0 0 .select).wf = true ∧ (Instr.unknownTransaction 0 6 .select).wf = true := by decide

/-! ### States and operands -/

/-- The state a command answers; the state itself where it answers none. -/
def after (c : Instr) (s : State) : State :=
  match exec c s with
  | .next t => t
  | _ => s

/-- The part is RUNNING past its start-up interval, with the reset contents. -/
def up : State := { State.reset with startUp := false }

/-- The part in HELD. -/
def held : State :=
  { up with
    ctl := { up.ctl with mode := .held }, clk := { phase := 5, beacon := none }
    ltx := { up.ltx with beaconPending := false } }

/-- A UID for tests, never an invalid one. -/
def U (n : Nat) : Uid := BitVec.ofNat 48 (0x3A0711C20000 + n)

/-- A record of `U 1` at address 5 with the fields that its state asks for (R4). -/
def stands (st : RecState) : Record :=
  { state := st
    origin := if st = .reserved ∨ st = .barred then .host else .line
    uid := U 1
    address := if st = .barred then none else some 5
    reserved := st == .reserved
    pinned := false
    remaining := if st = .offered ∨ st = .bound ∨ st = .lapsed then some 8 else none
    cls := 7, binds := 1, conflicts := 0, groups := [], label := [] }

/-- A record put in slot 2, its address taken off the free list. -/
def withRecord (r : Record) (s : State) : State :=
  { s with ros := { s.ros with
      table := s.ros.table.set 2 (some r)
      free := match r.address with
        | some a => s.ros.free.erase a
        | none => s.ros.free } }

/-- A request at the head of RXQ, with tag 0x21 and deadline 100. -/
def request (source : Nat) (code : Byte) (payload : List Byte) : Request :=
  { dest := 0, source := source, code := code, tag := 0x21, payload := payload, endTime := 20, deadline := 100 }

/-- A request waits for TC. -/
def asked (r : Request) (s : State) : State := { s with rxq := [r] }

/-- A command waits for TC. -/
def commanded (code : Byte) (args : List Byte) (s : State) : State := { s with cu := .executing code args }

/-- The bytes of a whole SUBMIT after byte 0. -/
def submitted (code : Byte) (args : List Byte) : List Byte := code :: byte args.length :: args

/-- An occupied slot for each record state, every collection in use, a frame in assembly and an EVICT on the line. -/
def rich : State :=
  let none64 := List.replicate 57 none
  let line (st : RecState) (n : Nat) (rem : Option Nat) : Record :=
    { stands st with origin := .line, uid := U n, address := some n, remaining := rem }
  { up with
    ros :=
      { table := [
          some { line .bound 1 (some 5) with groups := [2], label := [0x41] },
          some { stands .reserved with uid := U 2, address := some 2, groups := [2, 3] },
          some (line .offered 3 (some 0)),
          some (line .lapsed 4 (some 0)),
          some (line .evicting 5 none),
          some { stands .barred with uid := U 6 },
          some { line .bound 7 none with origin := .host, pinned := true, conflicts := 3 }] ++ none64
        free := [6] ++ List.range' 8 51
        hold := [⟨60, U 8, 0, 0⟩, ⟨59, U 9, 7, 0⟩]
        apq := [⟨U 10, 3, some 6, 0⟩]
        groups := [⟨false, []⟩, ⟨false, []⟩, ⟨true, [1, 0]⟩, ⟨false, [1]⟩] ++ List.replicate 12 ⟨false, []⟩ }
    lrx := ⟨.data 10 (cleanWave 0 true), [], .assembling ⟨[0x00, 5], none, crcOf [0x00, 5], false⟩, .held, none⟩
    rxq := [request 1 0x04 (uidBytes (U 1))]
    txq := [⟨.evict 4, ⟨2, 5, 0xC1, 0, uidBytes (U 5) ++ [2]⟩, 0, true⟩]
    ltx := ⟨.sending ⟨.entry, frameBytes ⟨2, 5, 0xC1, 0, uidBytes (U 5) ++ [2]⟩, 0, ⟨0x85, true, 0, 128⟩, none, false⟩,
      none, true⟩
    cu := .executing 0x61 [0x12, 0x34]
    pending := [.leave false] }

/-- A step of the state answers a next state. -/
abbrev Moves (s : State) : Prop := ∃ t, step s = .next t

theorem rich_moves : Moves rich := ⟨after (.leave false) { rich with pending := [] }, rfl⟩

theorem rich_records : occupied rich.ros.table = (rich.ros.table.take 7).filterMap id := by decide +kernel

theorem witness_CustodyLawKept : rich.CustodyLaw ∧ Moves rich := by
  refine ⟨⟨?_, by decide +kernel⟩, rich_moves⟩
  intro r hr
  rw [rich_records] at hr
  simp only [rich, List.take, List.cons_append, List.filterMap, id] at hr
  simp only [List.mem_cons, List.not_mem_nil, or_false] at hr
  rcases hr with rfl | rfl | rfl | rfl | rfl | rfl | rfl <;> simp [Record.Shape, stands]

theorem witness_UidLawKept : rich.UidLaw ∧ Moves rich := by
  refine ⟨?_, rich_moves⟩
  unfold State.UidLaw
  decide +kernel

theorem witness_GroupLawKept : rich.GroupLaw ∧ Moves rich := by
  refine ⟨⟨by decide +kernel, ?_, ?_⟩, rich_moves⟩
  · have small : ∀ g < 16, (rich.group g).members.Nodup ∧ (∀ slot ∈ (rich.group g).members, slot < 64) ∧ ∀ slot < 64,
        slot ∈ (rich.group g).members ↔ ∃ r, r ∈ rich.recordAt slot ∧ r.state ≠ .barred ∧ g ∈ r.groups := by
      decide +kernel
    intro g hg
    refine ⟨(small g hg).1, fun slot => ?_⟩
    rcases Nat.lt_or_ge slot 64 with h | h
    · exact (small g hg).2.2 slot h
    · constructor
      · intro hm
        exact absurd ((small g hg).2.1 slot hm) (by omega)
      · rintro ⟨r, hr, -⟩
        simp [State.recordAt, List.getElem?_eq_none (show rich.ros.table.length ≤ slot from h)] at hr
  · have small : ∀ slot < 64, ∀ r, r ∈ rich.recordAt slot → r.groups.Nodup ∧ ∀ g ∈ r.groups, g < 16 := by
      decide +kernel
    intro slot r hr
    rcases Nat.lt_or_ge slot 64 with h | h
    · exact small slot h r hr
    · simp [State.recordAt, List.getElem?_eq_none (show rich.ros.table.length ≤ slot from h)] at hr

theorem witness_EvictionLawKept : rich.EvictionLaw ∧ rich.inReset = false ∧ Moves rich := by
  refine ⟨fun _ => ⟨fun slot => ?_, by decide +kernel⟩, rfl, rich_moves⟩
  rcases Nat.lt_or_ge slot 64 with h | h
  · have small : ∀ slot < 64,
        rich.evictionsOf slot = if slotHas (fun r => r.state == .evicting) (rich.recordAt slot) then 1 else 0 := by
      decide +kernel
    exact small slot h
  · have : slot ≠ 4 := by omega
    simp [State.evictionsOf, State.recordAt, List.getElem?_eq_none (show rich.ros.table.length ≤ slot from h), slotHas]
    simp [rich, up, State.reset]
    omega

theorem witness_HeldLawKept : rich.HeldLaw ∧ Moves rich ∧ held.HeldLaw ∧ Moves { held with pending := [.secondEvent] } :=
  ⟨⟨by decide, rfl⟩, rich_moves, ⟨by decide, rfl, rfl, rfl⟩, after .secondEvent held, rfl⟩

theorem witness_CapacityLawKept : rich.CapacityLaw ∧ Moves rich := by
  refine ⟨⟨by decide, by decide, by decide, by decide, by decide, by decide +kernel, by decide +kernel, by decide +kernel,
    by decide +kernel, ?_⟩, rich_moves⟩
  show commandOk 0x61 [0x12, 0x34] = true
  decide

theorem witness_ReceptionLawKept : rich.ReceptionLaw ∧ (∃ a, rich.lrx.frm = .assembling a) ∧ Moves rich := by
  refine ⟨⟨?_, by decide +kernel⟩, ⟨_, rfl⟩, rich_moves⟩
  intro a ha
  cases ha
  exact ⟨by decide, by decide, by decide +kernel⟩

/-- An address in hold-down that `U 1` remembers, and a JOIN of `U 1`. -/
def returning : State :=
  asked (request 61 0x01 (uidBytes (U 1) ++ [7, 0]))
    { up with ros := { up.ros with free := up.ros.free.erase 33, hold := [⟨33, U 1, 20, 0⟩] } }

theorem returning_custody : returning.CustodyLaw := by
  refine ⟨?_, by decide +kernel⟩
  have : occupied returning.ros.table = [] := by decide +kernel
  simp [this]

theorem witness_HoldDownKeepsTheAddress : ∃ r, returning.CustodyLaw ∧
    Runs (.join false) returning (after (.join false) returning) ∧ ⟨33, U 1, 20, 0⟩ ∈ returning.ros.hold ∧
    (after (.join false) returning).recordAt 0 = some r ∧ r.address = some 33 := by
  refine ⟨((after (.join false) returning).recordAt 0).getD (stands .bound), returning_custody, rfl, ?_, ?_, ?_⟩ <;>
    decide +kernel

/-- The rich state with its queue's front command taken. -/
def leaving : State := { rich with pending := [] }

theorem witness_EveryChangeIsMarked : Runs (.leave false) leaving (after (.leave false) leaving) ∧
    (leaving.recordAt 0).map Record.visible ≠ ((after (.leave false) leaving).recordAt 0).map Record.visible := by
  refine ⟨rfl, fun h => ?_⟩
  have hidden : (leaving.recordAt 0).isSome = true ∧ (after (.leave false) leaving).recordAt 0 = none := by
    decide +kernel
  rw [hidden.2, Option.map_none, Option.map_eq_none_iff] at h
  simp [h] at hidden

/-- The rich state with a RENEW of slot 3's record, LAPSED at address 4. -/
def renewing : State := { rich with rxq := [request 4 0x03 (uidBytes (U 4))] }

theorem witness_RecordIdentityKept : ∃ r r', renewing.CustodyLaw ∧
    Runs (.renew false) renewing (after (.renew false) renewing) ∧ renewing.recordAt 3 = some r ∧
    (after (.renew false) renewing).recordAt 3 = some r' ∧ r.address = some 4 ∧ r'.address = some 4 ∧
    r.binds ≤ 255 ∧ r.conflicts ≤ 15 := by
  refine ⟨(renewing.recordAt 3).getD (stands .bound),
    ((after (.renew false) renewing).recordAt 3).getD (stands .bound), witness_CustodyLawKept.1, rfl, ?_, ?_, ?_, ?_, ?_, ?_⟩ <;>
    decide +kernel

/-- The rich state in HELD. -/
def richHeld : State := { rich with ctl := held.ctl, clk := held.clk }

theorem witness_HeldFreezesTheTimers : ∃ r r', richHeld.CustodyLaw ∧ richHeld.ctl.mode = .held ∧
    Runs (.graceExpiry 3) richHeld (after (.graceExpiry 3) richHeld) ∧ richHeld.recordAt 0 = some r ∧
    (after (.graceExpiry 3) richHeld).recordAt 0 = some r' ∧ r.remaining = some 5 ∧ r'.remaining = some 5 := by
  refine ⟨(richHeld.recordAt 0).getD (stands .bound),
    ((after (.graceExpiry 3) richHeld).recordAt 0).getD (stands .bound), witness_CustodyLawKept.1, rfl, rfl, ?_, ?_, ?_, ?_⟩ <;>
    decide +kernel

theorem witness_ParametersModeAndEpochAreGuarded :
    rich.ConfigLaw ∧ Moves rich ∧
    Runs .configure (commanded 0x50 [1, 0, 10] up) (after .configure (commanded 0x50 [1, 0, 10] up)) ∧
    (after .configure (commanded 0x50 [1, 0, 10] up)).cfg ≠ up.cfg ∧
    Runs .hold (commanded 0x60 [] up) (after .hold (commanded 0x60 [] up)) ∧
    (after .hold (commanded 0x60 [] up)).ctl.mode ≠ up.ctl.mode ∧
    Runs .release (commanded 0x61 [0, 1] held) (after .release (commanded 0x61 [0, 1] held)) ∧
    (after .release (commanded 0x61 [0, 1] held)).ctl.epoch ≠ held.ctl.epoch := by
  refine ⟨?_, rich_moves, rfl, ?_, rfl, ?_, rfl, ?_⟩
  · unfold State.ConfigLaw
    decide
  all_goals decide +kernel

theorem witness_LookupsAreExact : rich.UidLaw ∧ rich.findUid (U 7) = rich.findAddr 7 ∧
    (rich.findUid (U 7)).isSome = true ∧ rich.CustodyLaw ∧ rich.vacantSlot = some 7 := by
  refine ⟨witness_UidLawKept.1, ?_, ?_, witness_CustodyLawKept.1, ?_⟩ <;> decide +kernel

/-- Two hold-down items, the older one of `U 9`. -/
def items : List HoldItem := [⟨12, U 9, 3, 0⟩, ⟨33, U 1, 7, 0⟩]

theorem witness_ClaimAndAssignmentOrder :
    9 ∈ [60, 9] ∧ 33 ∉ [60, 9] ∧ items = [⟨12, U 9, 3, 0⟩] ++ ⟨33, U 1, 7, 0⟩ :: [] ∧
    (∀ j ∈ [(⟨12, U 9, 3, 0⟩ : HoldItem)], j.address ≠ 33 ∧ j.uid ≠ U 1) ∧
    12 ∉ [60, 9] ∧ (∀ i ∈ items, i.address = 12 → i.uid ≠ U 1) ∧ (∀ i ∈ items, i.uid ≠ U 5) ∧
    (∀ p ∈ [1, 60], 1 ≤ p ∧ p ≤ 60 ∧ p ∈ [60, 1]) ∧ (∀ p ∈ [0, 61, 12], p < 1 ∨ 60 < p ∨ p ∉ [60, 9]) := by
  decide

theorem test_claim_takes_the_remembered_item : claim 33 (U 1) ([60, 9], items) = some ([60, 9], [⟨12, U 9, 3, 0⟩]) ∧
    claim 12 (U 1) ([60, 9], items) = none ∧ claim 9 (U 1) ([60, 9], items) = some ([60], items) := by decide

theorem test_assignment_prefers_the_remembered_address :
    assign none (U 1) 9 ([60, 9], items) = some (33, ([60, 9], [⟨12, U 9, 3, 0⟩])) ∧
    assign none (U 5) 9 ([60, 9], items) = some (9, ([60], items)) ∧
    assign none (U 5) 12 ([60, 9], items) = some (60, ([9], items)) := by decide

/-! ### Requests -/

/-- The answers in TXQ: destination, code, tag and payload of each. -/
def answers (s : State) : List (Nat × Byte × Byte × List Byte) :=
  s.txq.map fun e => (e.frame.dest, e.frame.code, e.frame.tag, e.frame.payload)

/-- The roster of the worked sequence of 9.6: `U 3` BOUND at 14, `U 8` LAPSED at 20, 33 in hold-down. -/
def roster96 : State :=
  { up with ros := { up.ros with
      table := ((up.ros.table.set 4 (some { stands .bound with uid := U 3, address := some 14 })).set 7
        (some { stands .lapsed with uid := U 8, address := some 20 }))
      free := ((up.ros.free.erase 14).erase 20).erase 33
      hold := [⟨33, U 5, 20, 0⟩] } }

theorem witness_TakenRequestIsAnsweredOnce :
    (∀ source ∈ [0, 1, 60, 61, 62, 63], Taking (request source 0x13 []) [] (asked (request source 0x13 []) up) ∧
      InTime true (request source 0x13 []) (asked (request source 0x13 []) up)) ∧
    (∀ now ∈ [100, 101], Taking (request 5 0x13 []) [] (asked (request 5 0x13 []) { up with now := now }) ∧
      ¬ InTime true (request 5 0x13 []) (asked (request 5 0x13 []) { up with now := now })) ∧
    InTime false (request 5 0x13 []) (asked (request 5 0x13 []) { up with now := 100 }) := by
  decide

theorem witness_AdmissionAnswers :
    (∀ r ∈ [request 1 0x30 [], request 14 0x13 [0, 0], request 61 0x01 [0], request 61 0x11 [33], request 15 0x12 [3],
        request 61 0x01 (uidBytes 0 ++ [0, 0]), request 60 0x02 (uidBytes (BitVec.allOnes 48))],
      ∀ s ∈ [roster96, held], Taking r [] (asked r s) ∧ InTime true r (asked r s) ∧ r.source ≠ 0 ∧ r.source ≠ 62 ∧
        r.source ≠ 63) ∧
    requestLength 0x30 = none ∧ requestLength 0x13 ≠ some 2 ∧ roster96.findAddr 15 = none ∧
    roster96.findAddr 20 = some (7, { stands .lapsed with uid := U 8, address := some 20 }) := by
  refine ⟨?_, ?_, ?_, ?_, ?_⟩ <;> decide +kernel

/-- 9.6, steps 1 to 4. -/
theorem test_admission_before_the_hold :
    answers (after (.resolve false) (asked (request 14 0x10 (uidBytes (U 8))) roster96))
      = [(14, 0x80, 0x21, uidBytes (U 8) ++ [1, 4, 20])] ∧
    answers (after (.identify false) (asked (request 61 0x11 [33]) roster96)) = [(61, 0x82, 0x21, [5])] ∧
    answers (after (.info false) (asked (request 14 0x13 [1, 2]) roster96)) = [(14, 0x82, 0x21, [7])] ∧
    answers (after (.info false) (asked (request 62 0x13 []) roster96)) = [] ∧
    (after (.info false) (asked (request 62 0x13 []) roster96)).cn.counters.malformed = 1 := by decide +kernel

/-- 9.6, steps 6 to 10. -/
theorem test_admission_in_held_and_after :
    answers (after (.join false) (asked (request 61 0x01 (uidBytes (U 9) ++ [0, 0])) held))
      = [(61, 0x81, 0x21, uidBytes (U 9) ++ [1, 25])] ∧
    answers (after (.unsupportedRequest false) (asked (request 14 0x30 []) held)) = [(14, 0x81, 0x21, [1, 25])] ∧
    answers (after (.unsupportedRequest false) (asked (request 14 0x30 []) roster96)) = [(14, 0x82, 0x21, [8])] ∧
    answers (after (.identify false) (asked (request 14 0x11 [33]) roster96)) = [(14, 0x80, 0x21, [0])] := by
  refine ⟨?_, ?_, ?_, ?_⟩ <;> decide +kernel

/-- A JOIN of `U n` with class 9 and preferred address `p`. -/
def joining (n p : Nat) : Request := request 61 0x01 (uidBytes (U n) ++ [9, byte p])

/-- A RESERVED record without a reserved address. -/
def unaddressed : Record := { stands .reserved with reserved := false, address := none }

theorem witness_JoinOfAKnownUid :
    (∀ rd ∈ [stands .reserved, unaddressed, stands .offered, stands .bound, stands .lapsed, stands .evicting,
        stands .barred, { stands .bound with pinned := true, remaining := none }],
      Served true 0x01 (joining 1 7) [] (asked (joining 1 7) (withRecord rd up)) ∧
      (asked (joining 1 7) (withRecord rd up)).findUid (joining 1 7).uid = some (2, rd)) ∧
    (let s := withRecord unaddressed { up with ros := { up.ros with free := [] } }
     Served true 0x01 (joining 1 7) [] (asked (joining 1 7) s) ∧
      (asked (joining 1 7) s).findUid (joining 1 7).uid = some (2, unaddressed) ∧
      assign none (joining 1 7).uid 7 (s.ros.free, s.ros.hold) = none) := by
  decide +kernel

/-- The queue items of `k` stations, none of them `U 1`. -/
def queued (k : Nat) : List ApqItem := (List.range k).map fun n => ⟨U (20 + n), 3, none, 12⟩

/-- The part under a policy with a number of APQ items. -/
def policed (p : Policy) (k : Nat) : State :=
  { up with cfg := { up.cfg with policy := p }, ros := { up.ros with apq := queued k } }

theorem witness_JoinOfAnUnknownUid :
    (∀ p ∈ [Policy.openAll, .approve, .closed], ∀ k ∈ [0, 7, 8], ∀ n ∈ [1, 20],
      Served true 0x01 (joining n 7) [] (asked (joining n 7) (policed p k)) ∧
      (asked (joining n 7) (policed p k)).findUid (joining n 7).uid = none) ∧
    (∀ i ∈ queued 8, i.uid ≠ U 1) ∧ (∃ i ∈ queued 7, i.uid = U 20) ∧ (queued 7).length < 8 ∧ 8 ≤ (queued 8).length := by
  decide +kernel

/-- 4.7, times 2, 6 and 7: an item added, a full queue, a refresh in place. -/
theorem test_join_under_approve :
    ((after (.join false) (asked (joining 1 0) (policed .approve 5))).ros.apq.getLast? = some ⟨U 1, 9, none, 60⟩ ∧
      (after (.join false) (asked (joining 1 0) (policed .approve 5))).cn.notices = 1) ∧
    answers (after (.join false) (asked (joining 1 0) (policed .approve 8)))
      = [(61, 0x82, 0x21, uidBytes (U 1) ++ [4])] ∧
    (after (.join false) (asked (joining 25 0) (policed .approve 8))).ros.apq[5]? = some ⟨U 25, 9, none, 60⟩ ∧
    (after (.join false) (asked (joining 25 0) (policed .approve 8))).cn.notices = 0 := by decide +kernel

/-- 5.11, time 2: a JOIN under OPEN takes the lowest VACANT slot and the free list's head. -/
theorem test_join_makes_a_record :
    (after (.join false) (asked (joining 9 0) up)).recordAt 0 = some { stands .offered with
      uid := U 9, address := some 1, remaining := some 3, cls := 9, binds := 0 } ∧
    answers (after (.join false) (asked (joining 9 0) up))
      = [(61, 0x83, 0x21, uidBytes (U 9) ++ [1, 0x01, 0x2C, 3, 0, 0])] := by decide +kernel

/-- A life-cycle request of `U n` from an address. -/
def lifeCycle (code : Byte) (n source : Nat) : Request := request source code (uidBytes (U n))

theorem witness_ConfirmAndRenewOfTheHolder :
    (∀ code ∈ [0x02, 0x03], ∀ st ∈ [RecState.offered, .bound, .lapsed, .evicting],
      Served true code (lifeCycle code 1 5) [] (asked (lifeCycle code 1 5) (withRecord (stands st) up)) ∧
      (asked (lifeCycle code 1 5) (withRecord (stands st) up)).findAddr 5 = some (2, stands st) ∧
      (stands st).uid = (lifeCycle code 1 5).uid) ∧
    Served true 0x02 (lifeCycle 0x02 1 5) [] (asked (lifeCycle 0x02 1 5) up) ∧
    (asked (lifeCycle 0x02 1 5) up).findAddr 5 = none ∧
    Served true 0x02 (lifeCycle 0x02 1 5) [] (asked (lifeCycle 0x02 1 5) (withRecord (stands .reserved) up)) ∧
    (asked (lifeCycle 0x02 1 5) (withRecord (stands .reserved) up)).findAddr 5 = some (2, stands .reserved) := by
  refine ⟨?_, ?_, ?_, ?_, ?_⟩ <;> decide +kernel

/-- R39: a CONFIRM binds an OFFERED record, starts the lease and counts the binding. -/
theorem test_confirm_binds :
    (after (.confirm false) (asked (lifeCycle 0x02 1 5) (withRecord (stands .offered) up))).recordAt 2
      = some { stands .bound with remaining := some 300, binds := 2 } ∧
    answers (after (.confirm false) (asked (lifeCycle 0x02 1 5) (withRecord (stands .offered) up)))
      = [(5, 0x80, 0x21, [0x01, 0x2C, 0, 0, 0])] := by decide +kernel

/-- 3.10, note 7: a RENEW revives a LAPSED record with a full lease. -/
theorem test_renew_revives :
    (after (.renew false) (asked (lifeCycle 0x03 1 5) (withRecord (stands .lapsed) up))).recordAt 2
      = some { stands .bound with remaining := some 300 } := by decide +kernel

theorem witness_RenewAdopts :
    (∀ rd ∈ [stands .reserved, { stands .reserved with address := some 6 }, unaddressed, stands .barred,
        { stands .bound with address := some 6 }],
      Served true 0x03 (lifeCycle 0x03 1 5) [] (asked (lifeCycle 0x03 1 5) (withRecord rd up)) ∧
      (asked (lifeCycle 0x03 1 5) (withRecord rd up)).findUid (lifeCycle 0x03 1 5).uid = some (2, rd) ∧
      ((asked (lifeCycle 0x03 1 5) (withRecord rd up)).findAddr 5 = none ∨ rd = stands .reserved)) ∧
    (∀ p ∈ [Policy.openAll, .approve, .closed], ∀ source ∈ [1, 60],
      Served true 0x03 (lifeCycle 0x03 1 source) [] (asked (lifeCycle 0x03 1 source) (policed p 1)) ∧
      (asked (lifeCycle 0x03 1 source) (policed p 1)).findUid (lifeCycle 0x03 1 source).uid = none ∧
      (asked (lifeCycle 0x03 1 source) (policed p 1)).findAddr source = none) := by
  decide +kernel

/-- R48: adoption makes a BOUND LINE record of class 0 and bind count 1. -/
theorem test_renew_adopts :
    (after (.renew false) (asked (lifeCycle 0x03 1 33) roster96)).recordAt 0 = none ∧
    (after (.renew false) (asked (lifeCycle 0x03 5 33) roster96)).recordAt 0 = some { stands .bound with
      uid := U 5, address := some 33, remaining := some 300, cls := 0, binds := 1 } := by decide +kernel

theorem witness_LeaveReleases :
    Served true 0x04 (lifeCycle 0x04 1 5) [] (asked (lifeCycle 0x04 1 5) up) ∧
    (asked (lifeCycle 0x04 1 5) up).findAddr 5 = none ∧
    ∀ st ∈ [RecState.offered, .bound, .lapsed, .evicting, .reserved],
      Served true 0x04 (lifeCycle 0x04 1 5) [] (asked (lifeCycle 0x04 1 5) (withRecord (stands st) up)) ∧
      (asked (lifeCycle 0x04 1 5) (withRecord (stands st) up)).findAddr 5 = some (2, stands st) := by
  decide +kernel

/-- R52, R55: a LINE record that leaves is removed and its address remembered. -/
theorem test_leave_of_a_line_record :
    (after (.leave false) (asked (lifeCycle 0x04 1 5) (withRecord (stands .bound) up))).recordAt 2 = none ∧
    (after (.leave false) (asked (lifeCycle 0x04 1 5) (withRecord (stands .bound) up))).ros.hold = [⟨5, U 1, 60, 0⟩] := by
  decide +kernel

theorem witness_ConflictIsCountedAndAnswered :
    ∀ code ∈ [0x02, 0x03, 0x04], ∀ count ∈ [0, 3, 14, 15],
      Served true code (lifeCycle code 9 5) []
        (asked (lifeCycle code 9 5) (withRecord { stands .bound with conflicts := count } up)) ∧
      (asked (lifeCycle code 9 5) (withRecord { stands .bound with conflicts := count } up)).findAddr 5
        = some (2, { stands .bound with conflicts := count }) ∧
      U 1 ≠ (lifeCycle code 9 5).uid ∧ count ≤ 15 := by
  decide +kernel

/-- 5.11, time 1. -/
theorem test_intruder_on_a_bound_address :
    (after (.renew false) (asked (lifeCycle 0x03 9 5) (withRecord (stands .bound) up))).recordAt 2
      = some { stands .bound with conflicts := 1 } ∧
    (after (.renew false) (asked (lifeCycle 0x03 9 5) (withRecord (stands .bound) up))).cn.latch
      = some ⟨5, 2, U 9, 0x03, false⟩ ∧
    answers (after (.renew false) (asked (lifeCycle 0x03 9 5) (withRecord (stands .bound) up)))
      = [(5, 0xC1, 0x21, uidBytes (U 9) ++ [1])] := by decide +kernel

/-- The roster of 9.6 with the station at 14 in group 2, open. -/
def grouped : State :=
  { roster96 with ros := { roster96.ros with
      table := roster96.ros.table.set 4
        (some { stands .bound with uid := U 3, address := some 14, groups := [2], label := [0x56, 0x2D] })
      groups := roster96.ros.groups.set 2 ⟨true, [4]⟩ } }

theorem witness_LookupsAnswer :
    (∀ p ∈ [uidBytes (U 8), uidBytes (U 9), uidBytes 0, uidBytes (BitVec.allOnes 48)],
      ServedBound true 0x10 (request 14 0x10 p) [] (asked (request 14 0x10 p) grouped)) ∧
    (∀ a ∈ [0, 1, 14, 60, 61, 255],
      ServedBound true 0x11 (request 20 0x11 [byte a]) [] (asked (request 20 0x11 [byte a]) grouped)) ∧
    ServedBound true 0x13 (request 14 0x13 []) [] (asked (request 14 0x13 []) grouped) := by
  refine ⟨?_, ?_, ?_⟩ <;> decide +kernel

theorem test_identify_and_info :
    answers (after (.identify false) (asked (request 20 0x11 [14]) grouped))
      = [(20, 0x80, 0x21, [1, 3, 14] ++ uidBytes (U 3) ++ [7, 1, 2, 2, 0x56, 0x2D])] ∧
    answers (after (.info false) (asked (request 14 0x13 []) grouped))
      = [(14, 0x80, 0x21, [0, 0, 0, 0x01, 0x2C, 1, 57, 4])] := by decide +kernel

/-- Group 2 open with 24 members that are not slot 4. -/
def fullGroup : State :=
  { roster96 with ros := { roster96.ros with groups := roster96.ros.groups.set 2 ⟨true, List.range' 10 24⟩ } }

/-- The station at 14 in four groups, group 2 open and empty. -/
def fullRecord : State :=
  { roster96 with ros := { roster96.ros with
      table := roster96.ros.table.set 4 (some { stands .bound with
        uid := U 3, address := some 14, groups := [5, 6, 7, 8] })
      groups := roster96.ros.groups.set 2 ⟨true, []⟩ } }

theorem witness_SubscribeAndUnsubscribe :
    ∀ code ∈ [0x20, 0x21], ∀ g ∈ [2, 3, 15, 16], ∀ s ∈ [grouped, fullGroup, fullRecord],
      ServedBound true code (request 14 code [byte g]) [] (asked (request 14 code [byte g]) s) ∧
      ((asked (request 14 code [byte g]) s).findAddr 14).isSome = true := by
  decide +kernel

theorem test_subscribe :
    answers (after (.subscribe false) (asked (request 14 0x20 [2]) grouped)) = [(14, 0x80, 0x21, [1, 2])] ∧
    answers (after (.subscribe false) (asked (request 14 0x20 [2]) fullGroup)) = [(14, 0x82, 0x21, [10])] ∧
    answers (after (.subscribe false) (asked (request 14 0x20 [2]) fullRecord)) = [(14, 0x82, 0x21, [12])] ∧
    answers (after (.subscribe false) (asked (request 14 0x20 [3]) grouped)) = [(14, 0x82, 0x21, [11])] := by
  refine ⟨?_, ?_, ?_, ?_⟩ <;> decide +kernel

theorem test_unsubscribe :
    answers (after (.unsubscribe false) (asked (request 14 0x21 [2]) grouped)) = [(14, 0x80, 0x21, [0])] ∧
    ((after (.unsubscribe false) (asked (request 14 0x21 [2]) grouped)).group 2).members = [] ∧
    answers (after (.unsubscribe false) (asked (request 14 0x21 [16]) grouped)) = [(14, 0x82, 0x21, [9])] := by
  decide +kernel

theorem witness_GroupListAnswers : ∀ g ∈ [0, 2, 15, 16],
    ServedBound true 0x12 (request 14 0x12 [byte g]) [] (asked (request 14 0x12 [byte g]) grouped) := by
  decide +kernel

theorem test_group_list : answers (after (.groupList false) (asked (request 14 0x12 [2]) grouped))
    = [(14, 0x80, 0x21, [1, 1, 14, 0])] := by decide +kernel

/-! ### Time, expiries, reset -/

/-- An attempt at the character of an index of a two-character frame, started at instant 0 at rate 4. -/
def attempting (kind : AttemptKind) (index : Nat) (echo : Option Bool) : Attempt :=
  { kind := kind, bytes := [0xBF, 0x00], index := index, echo := echo, abortAtEnd := false
    drive := { byte := [0xBF, 0x00].getD index 0, mark := index == 0, start := 0, bit := 128 } }

/-- The part with LTX in a state. -/
def transmitting (l : LtxState) : State := { up with ltx := { up.ltx with state := l } }

/-- The part with the assembler in DATA since a start edge at instant 0, and a frame in assembly. -/
def receiving (w : CharWave) (frm : FrameAsm) : State :=
  { up with lrx := { chr := .data 0 w, bits := [], frm := frm, sil := .held, quiet := none } }

/-- The part with the assembler in START since a start edge at instant 0. -/
def begun (w : CharWave) : State := { up with lrx := { up.lrx with chr := .start 0 w, sil := .held } }

theorem witness_TimeMovesTheClocks :
    { up with inReset := true }.inReset = true ∧ up.inReset = false ∧ up.ctl.mode = .running ∧ held.ctl.mode = .held ∧
    up.clk.beacon = some ⟨0, 3686400⟩ ∧ (0 + 3686399 < 3686400 ∧ 3686400 ≤ 0 + 3686400) ∧
    { up with clk := ⟨0, none⟩ }.clk.beacon = none ∧ up.lrx.chr = .waiting ∧
    (∀ w ∈ [cleanWave 5 true, ⟨1, 1, 0⟩],
      (begun w).lrx.chr = .start 0 w ∧ (begun w).now + 63 < 0 + 8 * samplePeriods 4 ∧
      0 + 8 * samplePeriods 4 ≤ (begun w).now + 64) ∧
    majority (cleanWave 5 true) 0 = false ∧ majority ⟨1, 1, 0⟩ 0 = true ∧
    (receiving (cleanWave 5 true) .outside).lrx.chr = .data 0 (cleanWave 5 true) ∧
    (∀ kind ∈ [AttemptKind.entry, .beacon 4],
      (attempting kind 0 (some true)).echo = some true ∧ (attempting kind 0 (some true)).index + 1 < 2 ∧
      (transmitting (.sending (attempting kind 0 (some true)))).now + 1408 = 0 + 11 * 128 ∧
      (attempting kind 1 (some true)).bytes.length ≤ (attempting kind 1 (some true)).index + 1 ∧
      (attempting kind 0 none).echo ≠ some true) ∧ ∀ a, up.ltx.state ≠ .sending a := by
  refine ⟨rfl, rfl, rfl, rfl, rfl, by decide, rfl, rfl, by decide, by decide, by decide, rfl, by decide, fun a h => ?_⟩
  cases h

/-- R122, R123: DATA begins at sample 9 of position 0, 64 periods after the edge at rate 4, and takes a bit each 128. -/
theorem test_bits_received :
    ((begun (cleanWave 5 true)).advance 63).lrx.chr = .start 0 (cleanWave 5 true) ∧
    ((begun (cleanWave 5 true)).advance 64).lrx.chr = .data 0 (cleanWave 5 true) ∧
    ((begun (cleanWave 5 true)).advance 191).lrx.bits = [] ∧
    ((begun (cleanWave 5 true)).advance (64 + 3 * 128)).lrx.bits = [true, false, true] ∧
    ((begun (cleanWave 5 true)).advance (64 + 9 * 128)).lrx.bits
      = [true, false, true, false, false, false, false, false, true] := by decide +kernel

/-- R59, R60, R146: a span of time that ends one second and four beacon periods has their effects. -/
theorem test_time_past_a_second :
    ((withRecord { stands .bound with remaining := some 5 } up).advance 14745605).clk = ⟨5, some ⟨5, 3686400⟩⟩ ∧
    (((withRecord { stands .bound with remaining := some 5 } up).advance 14745605).recordAt 2).bind Record.remaining
      = some 4 := by decide +kernel

theorem test_next_character_without_a_gap :
    ((transmitting (.sending (attempting .entry 0 (some true)))).advance 1407).ltx.state
      = .sending (attempting .entry 0 (some true)) ∧
    ((transmitting (.sending (attempting .entry 0 (some true)))).advance 1408).ltx.state
      = .sending { attempting .entry 1 none with drive := ⟨0, false, 1408, 128⟩ } := by decide

theorem witness_SecondEventLowersEveryTimer : up.inReset = false ∧ up.ctl.mode = .running ∧ up.clk.phase < 14745600 ∧
    held.inReset = false ∧ held.ctl.mode = .held := by decide

/-- 3.10, time 64: the lease at 5 reads 4 after a second event. -/
theorem test_second_event :
    ((after .secondEvent (withRecord { stands .bound with remaining := some 5 } up)).recordAt 2).bind Record.remaining
      = some 4 ∧
    (after .secondEvent up).now = 14745600 ∧ (after .secondEvent up).clk.phase = 0 := by decide +kernel

/-- A record whose timer reads 0. -/
def expired (st : RecState) : Record := { stands st with remaining := some 0 }

/-- Two pending hold-down expiries: 7's of this second, 9's of the second before. -/
def twoExpired : State := { up with ros := { up.ros with free := [40], hold := [⟨7, U 5, 0, 0⟩, ⟨9, U 6, 0, 1⟩] } }

theorem witness_ExpiriesAndCompletionsTakeEffect :
    (∀ st ∈ [RecState.bound, .lapsed, .offered], (withRecord (expired st) up).recordAt 2 = some (expired st) ∧
      (expired st).address = some 5 ∧ (expired st).remaining = some 0) ∧
    (withRecord (stands .evicting) { up with completions := [2] }).recordAt 2 = some (stands .evicting) ∧
    2 ∈ (withRecord (stands .evicting) { up with completions := [2] }).completions ∧
    [⟨60, U 8, 3, 0⟩, ⟨1, U 9, 0, 2⟩] = [(⟨60, U 8, 3, 0⟩ : HoldItem)] ++ ⟨1, U 9, 0, 2⟩ :: [] ∧
    (∀ j ∈ [(⟨60, U 8, 3, 0⟩ : HoldItem), ⟨1, U 9, 0, 2⟩], j.remaining = 0 → j.overdue ≤ 2) ∧
    (∀ i ∈ twoExpired.ros.hold, i.address = 7 → i.remaining = 0 →
      ∃ j ∈ twoExpired.ros.hold, j.remaining = 0 ∧ i.overdue < j.overdue) ∧
    [⟨U 8, 1, none, 3⟩, ⟨U 9, 1, none, 0⟩] = [(⟨U 8, 1, none, 3⟩ : ApqItem)] ++ ⟨U 9, 1, none, 0⟩ :: [] ∧ U 8 ≠ U 9 := by
  refine ⟨?_, ?_, ?_, ?_, ?_, ?_, ?_, ?_⟩ <;> decide +kernel

/-- 3.10, time 68, and R64's grace time 0. -/
theorem test_lease_expiry :
    (after (.leaseExpiry 2) (withRecord (expired .bound) { up with cfg := { up.cfg with graceTime := 4 } })).recordAt 2
      = some { stands .lapsed with remaining := some 4 } ∧
    (after (.leaseExpiry 2) (withRecord (expired .bound) { up with cfg := { up.cfg with graceTime := 0 } })).recordAt 2
      = none := by decide +kernel

/-- 3.10, time 72. -/
theorem test_grace_expiry :
    (after (.graceExpiry 2) (withRecord (expired .lapsed) { up with cfg := { up.cfg with holdTime := 15 } })).recordAt 2
      = none ∧
    (after (.graceExpiry 2) (withRecord (expired .lapsed) { up with cfg := { up.cfg with holdTime := 15 } })).ros.hold
      = [⟨5, U 1, 15, 0⟩] := by decide +kernel

/-- R66: a HOST record with its reserved flag set returns to RESERVED with its address. -/
theorem test_offer_expiry :
    (after (.offerExpiry 2)
      (withRecord { expired .offered with origin := .host, reserved := true } up)).recordAt 2 = some (stands .reserved) := by
  decide +kernel

/-- 3.10, time 87: the address at the free list's tail; R24: an expiry of an earlier second comes first. -/
theorem test_hold_down_expiry :
    (after (.holdDownExpiry 7) { up with ros := { up.ros with free := [40, 41], hold := [⟨7, U 5, 0, 0⟩] } }).ros.free
      = [40, 41, 7] ∧
    after (.holdDownExpiry 7) twoExpired = twoExpired ∧
    (after (.holdDownExpiry 7) (after (.holdDownExpiry 9) twoExpired)).ros.free = [40, 9, 7] := by decide +kernel

/-- 4.7, time 12. -/
theorem test_approval_expiry :
    (after (.approvalExpiry (U 1)) { up with ros := { up.ros with apq := ⟨U 1, 3, none, 0⟩ :: queued 2 } }).ros.apq
      = queued 2 ∧
    (after (.approvalExpiry (U 1)) { up with ros := { up.ros with apq := ⟨U 1, 3, none, 0⟩ :: queued 2 } }).cn.notices
      = 2 := by decide +kernel

theorem test_eviction_completion :
    (after (.evictionCompletion 2) (withRecord (stands .evicting) { up with completions := [2] })).recordAt 2 = none ∧
    (after (.evictionCompletion 2) (withRecord (stands .evicting) up)).recordAt 2 = some (stands .evicting) := by
  decide +kernel

theorem witness_PinResetReleaseAndStartUp :
    State.reset.inReset = false ∧ State.reset.startUp = true ∧ State.reset.now + 29490 < 29491 ∧
    State.reset.hp.txn = none ∧ { up with inReset := true }.inReset = true := by decide

theorem test_pin_reset_ends_an_attempt :
    (after (.pinReset 0) rich).de = false ∧ (after (.pinReset 0) rich).cu = .idle ∧ (after (.pinReset 0) rich).txd = true ∧
    rich.de = true := by decide +kernel

/-- R197, with the strap high: HELD, no beacon due. -/
theorem test_reset_release_held :
    (after (.resetRelease 0 true) { rich with inReset := true }).ctl.mode = .held ∧
    (after (.resetRelease 0 true) { rich with inReset := true }).ltx.beaconPending = false ∧
    (after (.resetRelease 0 false) { State.reset with inReset := true, startUp := false }) = State.reset := by
  decide +kernel

theorem test_start_up_end : (after (.startUpEnd 10) State.reset).startUp = false ∧
    (after (.startUpEnd 40000) State.reset).now = 29491 := by decide

/-! ### Reception -/

/-- The part with a silence running since instant 0. -/
def silent (frm : FrameAsm) : State :=
  { up with lrx := { chr := .waiting, bits := [], frm := frm, sil := .since 0, quiet := none } }

/-- A frame in assembly that has these bytes. -/
def assembling (bytes : List Byte) : Assembly :=
  { bytes := bytes
    declared := if bytes.length < 5 then none else some (7 + natAt bytes 4)
    crc := crcOf (if bytes.length < 5 then bytes else bytes.take (5 + natAt bytes 4))
    own := false }

/-- The part after a framing error or a false start: RXD read 1 last, or not. -/
def readZero (last : Bool) : State := { up with lrx := { up.lrx with sil := .awaitOne last } }

theorem witness_EdgesRestartTheSilence :
    (∀ dt ∈ [0, 2 * 1408, 3 * 1408, 3 * 1408 + 1, 6 * 1408],
      (silent (.assembling (assembling [0, 5]))).inReset = false ∧ (silent .outside).lrx.sil = .since 0 ∧
      (∀ aborted ∈ [0, 1408], ({ silent .outside with ltx := ⟨.backoff 1 aborted, none, false⟩ } : State).lrx.chr = .waiting) ∧
      (silent .outside).now + dt = dt) ∧
    (∀ w ∈ [(⟨1, 1, 0⟩ : CharWave), ⟨0, 1, 1⟩, ⟨1, 0, 1⟩, ⟨1, 1, 1⟩],
      (begun w).lrx.chr = .start 0 w ∧ majority w 0 = true) ∧
    up.lrx.sil = .awaitOne false ∧ (readZero true).lrx.sil = .awaitOne true ∧ (readZero true).lrx.chr = .waiting := by
  refine ⟨?_, ?_, rfl, rfl, rfl⟩ <;> decide

/-- R128: the silence passes 3 tCHAR, and no less, before the frame is truncated. -/
theorem test_start_edge_after_the_gap :
    (after (.startEdge ⟨4224, cleanWave 0 true⟩) (silent (.assembling (assembling [0, 5])))).lrx.frm = .assembling (assembling [0, 5]) ∧
    (after (.startEdge ⟨4225, cleanWave 0 true⟩) (silent (.assembling (assembling [0, 5])))).lrx.frm = .outside ∧
    (after (.startEdge ⟨4225, cleanWave 0 true⟩) (silent (.assembling (assembling [0, 5])))).cn.counters.malformed = 1 := by decide +kernel

def falseStarted (w : CharWave) (high : Bool) : State := after (.falseStart w high) (begun w)

/-- R122, R125: back to WAITING at sample 9 of position 0, 8 samples after the start edge, nothing counted; a 0 is a start
edge only after a sample 9 of 1, and a next sample reading 1 starts the silence. -/
theorem test_false_start :
    (falseStarted ⟨1, 1, 0⟩ false).lrx.chr = .waiting ∧ (falseStarted ⟨1, 1, 0⟩ false).now = 64 ∧
    (falseStarted ⟨1, 1, 0⟩ false).cn = up.cn ∧ (falseStarted ⟨1, 1, 0⟩ true).lrx.sil = .since 72 ∧
    (after (.startEdge ⟨9, cleanWave 0 true⟩) (falseStarted ⟨1, 1, 0⟩ false)).lrx.chr = .waiting ∧
    (after (.startEdge ⟨9, cleanWave 0 true⟩) (falseStarted ⟨1, 0, 1⟩ false)).lrx.chr = .start 73 (cleanWave 0 true) := by
  decide +kernel

/-- A character's event names the samples of the character that ends [log 29]. -/
theorem test_event_of_another_character :
    after (.markedCharacter (cleanWave 1 true)) (receiving (cleanWave 0 true) .outside)
      = receiving (cleanWave 0 true) .outside := by decide +kernel

theorem test_break_end : (after (.breakEnd 7) up).lrx.sil = .since 7 := by decide

theorem witness_Characters :
    (∀ w ∈ [cleanWave 0 true, cleanWave 48 false, cleanWave 49 false, ⟨0, 0, 0⟩],
      ∀ frm ∈ [FrameAsm.outside, .discarding false, .discarding true, .assembling (assembling [0, 5, 0x13]),
        .assembling (assembling [0, 5, 0x13, 7]), .assembling (assembling [0, 5, 0x11, 7, 1]),
        .assembling (assembling [0, 5, 0x11, 7, 1, 33])],
      (receiving w frm).inReset = false ∧ (receiving w frm).lrx.chr = .data 0 w) ∧
    Decides (cleanWave 0 true) true true ∧ Decides (cleanWave 48 false) false true ∧
    Decides (cleanWave 49 false) false true ∧ Decides ⟨0, 0, 0⟩ false false ∧
    (waveByte (cleanWave 48 false)).toNat ≤ 48 ∧ 48 < (waveByte (cleanWave 49 false)).toNat ∧
    (assembling [0, 5, 0x13]).declared = none ∧ (assembling [0, 5, 0x13, 7]).bytes.length = 4 ∧
    (assembling [0, 5, 0x11, 7, 1]).declared = some (7 + 1) ∧ (assembling [0, 5, 0x11, 7, 1]).bytes.length < 6 + 1 ∧
    (assembling [0, 5, 0x11, 7, 1, 33]).bytes.length = 5 + 1 := by
  refine ⟨?_, ?_, ?_, ?_, ?_, ?_, ?_, ?_, ?_, ?_, ?_, ?_⟩ <;> decide +kernel

theorem witness_MarkedCharacterBeginsAFrame : (receiving (cleanWave 0 true) .outside).inReset = false ∧
    (receiving (cleanWave 0 true) .outside).lrx.chr = .data 0 (cleanWave 0 true) ∧
    (begun (cleanWave 0 true)).lrx.chr = .start 0 (cleanWave 0 true) ∧ Decides (cleanWave 0 true) true true := by decide

theorem witness_UnmarkedCharacterIsTheNextByte :
    (receiving (cleanWave 48 false) (.discarding true)).lrx.chr = .data 0 (cleanWave 48 false) ∧
    (receiving (cleanWave 48 false) (.discarding true)).lrx.frm = .discarding true ∧
    Decides (cleanWave 48 false) false true := by decide

theorem witness_MalformedAndTruncatedFrames :
    (receiving (cleanWave 49 false) (.assembling (assembling [0, 5, 0x13, 7]))).lrx.chr = .data 0 (cleanWave 49 false) ∧
    Decides (cleanWave 49 false) false true ∧ (assembling [0, 5, 0x13, 7]).bytes.length = 4 ∧
    48 < (waveByte (cleanWave 49 false)).toNat ∧ (silent (.assembling (assembling [0, 5]))).lrx.chr = .waiting ∧
    (silent (.discarding true)).lrx.frm = .discarding true ∧ (silent (.discarding true)).lrx.sil = .since 0 := by
  decide

/-- R204: the data bits come least significant first, then the mark and the stop bit. -/
theorem test_character_layout :
    cleanWave 0x01 true = ⟨0b11000000010, 0b11000000010, 0b11000000010⟩ ∧
    waveByte ⟨0b10000000010, 0b10100000010, 0b10000000110⟩ = 0x01 := by decide

/-- 7.9, step 2: a marked character cuts a frame and begins the next. -/
theorem test_marked_character :
    (after (.markedCharacter (cleanWave 0 true)) (receiving (cleanWave 0 true) (.assembling (assembling [0, 5, 0x13])))).lrx.frm
      = .assembling (assembling [0]) ∧
    (after (.markedCharacter (cleanWave 0 true)) (receiving (cleanWave 0 true) (.assembling (assembling [0, 5, 0x13])))).cn.counters.malformed
      = 1 ∧
    (after (.markedCharacter (cleanWave 0 true)) (receiving (cleanWave 0 true) .outside)).lrx.sil = .since 1408 := by decide +kernel

theorem test_unmarked_character :
    (after (.unmarkedCharacter (cleanWave 1 false)) (receiving (cleanWave 1 false) (.assembling (assembling [0, 5, 0x11, 7])))).lrx.frm
      = .assembling (assembling [0, 5, 0x11, 7, 1]) ∧
    (after (.unmarkedCharacter (cleanWave 1 false)) (receiving (cleanWave 1 false) .outside)).lrx.frm = .outside := by decide +kernel

theorem test_length_malformed :
    (after (.lengthMalformed (cleanWave 49 false)) (receiving (cleanWave 49 false) (.assembling (assembling [0, 5, 0x11, 7])))).lrx.frm
      = .discarding false ∧
    (after (.lengthMalformed (cleanWave 49 false)) (receiving (cleanWave 49 false) (.assembling (assembling [0, 5, 0x11, 7])))).cn.counters.malformed = 1 := by decide +kernel

theorem test_frame_gap_truncation :
    (after .frameGapTruncation (silent (.assembling (assembling [0, 5])))).cn.counters.malformed = 1 ∧
    (after .frameGapTruncation (silent (.discarding false))).cn.counters.malformed = 0 ∧
    (after .frameGapTruncation (silent (.discarding false))).lrx.frm = .outside := by decide +kernel

/-- An INFO request from 5 with tag 7 up to its last character but one, and that last character's byte. -/
def infoFrame : List Byte := [0x00, 0x05, 0x13, 0x07, 0x00]
def infoCrc : List Byte := be16 (crcOf infoFrame).toNat

/-- The part that has received all of an INFO request but its last character, with RXQ holding `n` requests. -/
def completing (w : CharWave) (n : Nat) : State :=
  { receiving w (.assembling (assembling (infoFrame ++ infoCrc.take 1))) with
    rxq := List.replicate n (request 9 0x13 []) }

/-- LTX sends the first character of a frame from instant 0 on. -/
def sendingFirst (s : State) : State := { s with ltx := ⟨.sending (attempting .entry 0 none), none, false⟩ }

/-- The last character of the INFO request. -/
def infoLast : CharWave := cleanWave (byteAt infoCrc 1) false

/-- The published check value of this CRC (polynomial 0x1021, preset to all ones, not inverted) over "123456789". -/
theorem test_crc_check_value : crcOf [0x31, 0x32, 0x33, 0x34, 0x35, 0x36, 0x37, 0x38, 0x39] = 0x29B1#16 := by
  decide +kernel

theorem witness_CompleteFrameIsCheckedAndAdmitted : ∃ a, ∀ n ∈ [0, 3, 4],
    (completing infoLast n).inReset = false ∧ (completing infoLast n).lrx.chr = .data 0 infoLast ∧
    Decides infoLast false true ∧ (completing infoLast n).ReceptionLaw ∧ (completing infoLast n).lrx.frm = .assembling a ∧ a.declared = some (a.bytes.length + 1) := by
  refine ⟨assembling (infoFrame ++ infoCrc.take 1), fun n hn => ⟨rfl, rfl, by decide +kernel, ⟨?_, ?_⟩, rfl, by decide⟩⟩
  · intro a ha
    cases ha
    exact ⟨by decide, by decide, by decide, by decide, by decide, by decide +kernel⟩
  · intro r hr
    rw [List.eq_of_mem_replicate hr]
    decide

/-- 7.9, steps 3 and 7: an INFO request appended, and one refused as an overrun. -/
theorem test_frame_received :
    ((after (.frameReceived infoLast) (completing infoLast 3)).rxq.getLast?.map fun r => (r.source, r.code, r.tag, r.payload))
      = some (5, 0x13, 7, []) ∧
    (after (.frameReceived infoLast) (completing infoLast 3)).cn.counters.accepted = 1 ∧
    (after (.frameReceived infoLast) (completing infoLast 4)).rxq.length = 4 ∧
    (after (.frameReceived infoLast) (completing infoLast 4)).cn.counters.overruns = 1 := by decide +kernel

/-- R130, R133: the character that completes a frame while DE is asserted moves no counter; the request is appended, or
refused with its notice [log 15]. -/
theorem test_frame_received_in_an_attempt :
    (after (.frameReceived infoLast) (sendingFirst (completing infoLast 3))).rxq.length = 4 ∧
    (after (.frameReceived infoLast) (sendingFirst (completing infoLast 3))).cn = up.cn ∧
    (after (.frameReceived infoLast) (sendingFirst (completing infoLast 4))).cn = { up.cn with notices := 0x08 } := by decide +kernel

/-- 7.9, step 1: a corrupted bit is a CRC error and nothing else. -/
theorem test_corrupted_frame :
    (after (.frameReceived (cleanWave (byteAt infoCrc 1 ^^^ 1) false)) (completing (cleanWave (byteAt infoCrc 1 ^^^ 1) false) 0)).cn.counters
      = { Counters.zero with crcErrors := 1 } := by decide +kernel

theorem witness_FramingErrorAbandonsTheFrame : (receiving ⟨0, 0, 0⟩ .outside).inReset = false ∧
    (receiving ⟨0, 0, 0⟩ .outside).lrx.chr = .data 0 ⟨0, 0, 0⟩ ∧ majority ⟨0, 0, 0⟩ 0 = false ∧
    majority ⟨0, 0, 0⟩ 10 = false := by decide

/-- 7.9, step 5: a break counts one framing error and the line stays busy; R130: in an own frame it counts none, also
while the frame is discarded. -/
theorem test_framing_error :
    (after (.framingError ⟨0, 0, 0⟩) (receiving ⟨0, 0, 0⟩ (.assembling (assembling [0, 5])))).cn.counters
      = { Counters.zero with framing := 1 } ∧
    (after (.framingError ⟨0, 0, 0⟩) (receiving ⟨0, 0, 0⟩ (.discarding true))).cn.counters = Counters.zero ∧
    (after (.framingError ⟨0, 0, 0⟩) (receiving ⟨0, 0, 0⟩ (.assembling (assembling [0, 5])))).lrx.sil = .awaitOne false := by
  decide +kernel

/-! ### Transmission -/

/-- A TXQ entry of a kind, with a short frame. -/
def entry (kind : EntryKind) : Entry :=
  { kind := kind, frame := ⟨1, 5, 0x80, 0x21, [0, 0]⟩, attempts := 0, inAttempt := false }

/-- LTX READY on a line silent since instant 0, with a queue. -/
def ready (q : List Entry) : State := { silent .outside with txq := q, ltx := ⟨.ready, none, true⟩ }

theorem witness_AttemptStartsByTheChoice :
    (ready []).inReset = false ∧ (ready []).ltx.state = .ready ∧ (ready []).ltx.tail = none ∧
    (ready []).lrx.sil = .since 0 ∧ ((ready []).advanceTo 2816).ltx.beaconPending = true ∧
    max (ready []).now (0 + 2 * tChar (ready []).cfg.lineRate) = 2816 ∧
    (ready [entry (.answer 2815), entry (.answer 2816), entry (.answer 2816)]).txq[1]? = some (entry (.answer 2816)) ∧
    (ready [entry (.answer 2815), entry (.evict 2), entry .offer]).txq[1]? = some (entry (.evict 2)) := by
  decide

/-- The two clauses about entries have their hypotheses met: the first entry's deadline has passed, the second is the
one chosen; a queue whose only answer is past its deadline leaves the choice to the oldest other entry. -/
theorem witness_AttemptStartsByTheChoice_entries :
    (∀ j e' d', [entry (.answer 2815), entry (.answer 2816), entry (.answer 2816)][j]? = some e' →
      e'.kind = .answer d' → 2816 ≤ d' → 2816 < d' ∨ 2816 = d' ∧ 1 ≤ j) ∧
    (∀ e ∈ [entry (.answer 2815), entry (.evict 2)], ¬ ∃ d, e.kind = .answer d ∧ 2816 ≤ d) ∧
    (∀ j e', j < 1 → [entry (.answer 2815), entry (.evict 2)][j]? = some e' → ∃ d, e'.kind = .answer d) := by
  refine ⟨?_, ?_, ?_⟩
  · intro j e' d' he hk hd
    match j with
    | 0 => cases he; cases hk; omega
    | 1 => cases he; cases hk; omega
    | 2 => cases he; cases hk; omega
    | j + 3 => simp at he
  · simp [entry]
  · intro j e' hj he
    obtain rfl : j = 0 := by omega
    cases he
    exact ⟨2815, rfl⟩

/-- 8.7, times 79 and 93: the earliest deadline goes first, and between equals the one nearer the head. -/
theorem test_attempt_starts_with_the_earliest_deadline :
    (after .txAttemptStart (ready [entry (.answer 143616), entry (.answer 119680), entry (.answer 143616)])).txq.map
      Entry.inAttempt = [false, true, false] ∧
    (after .txAttemptStart (ready [entry (.answer 143616), entry (.answer 143616)])).txq.map Entry.inAttempt
      = [true, false] := by decide +kernel

/-- 12.6, step 10: what a beacon carries. -/
theorem test_beacon_frame :
    (match (after .txAttemptStart { ready [] with ctl := ⟨.running, 42⟩ }).ltx.state with
      | .sending a => a.bytes.take 12
      | _ => []) = [0xBF, 0, 0xC0, 0, 7, 0, 42, 0, 4, 60, 0x01, 0x2C] := by decide +kernel

/-- LTX sending the entry at the queue's place 1, at the last character. -/
def sendingEntry (kind : EntryKind) (attempts : Nat) (echo : Option Bool) : State :=
  { transmitting (.sending (attempting .entry 1 echo)) with
    txq := [entry .offer, { entry kind with attempts := attempts, inAttempt := true }, entry (.answer 9000)] }

theorem witness_AbortedAttempt :
    ∀ kind ∈ [EntryKind.answer 1407, .answer 1408, .evict 2, .offer], ∀ attempts ∈ [0, 1, 2, 6],
      ∀ echo ∈ [none, some false],
      (sendingEntry kind attempts echo).inReset = false ∧
      (sendingEntry kind attempts echo).ltx.state = .sending (attempting .entry 1 echo) ∧
      (attempting .entry 1 echo).echo ≠ some true ∧ (attempting .entry 1 echo).kind = .entry ∧
      (sendingEntry kind attempts echo).txq
        = [entry .offer] ++ { entry kind with attempts := attempts, inAttempt := true } :: [entry (.answer 9000)] := by
  decide

theorem witness_AbortedAttempt_beacon :
    (transmitting (.sending (attempting (.beacon 4) 1 none))).inReset = false ∧
    (attempting (.beacon 4) 1 none).kind ≠ .entry ∧ (attempting (.beacon 4) 1 none).echo ≠ some true := by decide

/-- R143, R144: kept with one attempt more, or abandoned at TX_ATTEMPTS, 3. -/
theorem test_transmit_abort :
    (after (.transmitAbort false) (sendingEntry (.evict 2) 1 (some false))).txq.map Entry.attempts = [0, 2, 0] ∧
    (after (.transmitAbort false) (sendingEntry (.evict 2) 1 (some false))).ltx.state = .backoff 2 1408 ∧
    (after (.transmitAbort false) (sendingEntry (.evict 2) 2 (some false))).completions = [2] ∧
    (after (.transmitAbort false) (sendingEntry (.evict 2) 2 (some false))).cn.counters.abandons = 1 := by decide +kernel

theorem witness_CompletedAttempt :
    (∀ slots ∈ [0, 1, 8], (transmitting (.sending (attempting (.beacon slots) 1 (some true)))).inReset = false ∧
      (attempting (.beacon slots) 1 (some true)).abortAtEnd = false ∧
      (attempting (.beacon slots) 1 (some true)).echo = some true ∧
      (attempting (.beacon slots) 1 (some true)).index + 1 = (attempting (.beacon slots) 1 (some true)).bytes.length) ∧
    (sendingEntry (.evict 2) 0 (some true)).txq
      = [entry .offer] ++ { entry (.evict 2) with inAttempt := true } :: [entry (.answer 9000)] ∧
    ∀ e' ∈ [entry .offer], e'.inAttempt = false := by decide

/-- 8.7, time 14: the window of four slots closes 64 tCHAR after the beacon's end. -/
theorem test_transmit_complete :
    (after .transmitComplete (transmitting (.sending (attempting (.beacon 4) 1 (some true))))).ltx.state
      = .window (1408 + 64 * 1408) ∧
    (after .transmitComplete (sendingEntry (.evict 2) 0 (some true))).completions = [2] ∧
    (after .transmitComplete (sendingEntry (.evict 2) 0 (some true))).txq.length = 2 := by decide +kernel

theorem witness_TimedEventsOfTheTransmitter :
    (transmitting (.window 78)).inReset = false ∧ (transmitting (.window 78)).ltx.state = .window 78 ∧
    ({ silent .outside with ltx := ⟨.backoff 1 0, none, true⟩ } : State).lrx.sil = .since 0 ∧
    ({ up with ltx := ⟨.ready, some ⟨0xBF, true, 0, 128⟩, false⟩ } : State).ltx.tail = some ⟨0xBF, true, 0, 128⟩ ∧
    up.ctl.mode = .running ∧ up.clk.beacon = some ⟨0, 3686400⟩ ∧
    (sendingEntry .offer 0 none).txq = [entry .offer, { entry .offer with inAttempt := true }] ++ entry (.answer 9000) :: [] ∧
    (entry (.answer 9000)).kind = .answer 9000 ∧ (entry (.answer 9000)).inAttempt = false := by
  refine ⟨rfl, rfl, rfl, rfl, rfl, rfl, rfl, rfl, rfl⟩

theorem test_join_window_close : (after .joinWindowClose (transmitting (.window 78))).ltx.state = .ready ∧
    (after .joinWindowClose (transmitting (.window 78))).now = 78 := by decide

/-- 8.7, time 106: BACKOFF of attempt 1 ends 6 tCHAR after the line falls silent. -/
theorem test_backoff_end :
    (after .backoffEnd { silent .outside with ltx := ⟨.backoff 1 0, none, true⟩ }).ltx.state = .ready ∧
    (after .backoffEnd { silent .outside with ltx := ⟨.backoff 1 0, none, true⟩ }).now = 6 * 1408 := by decide

/-- R143: on a line that no echo has made busy, the 6 tCHAR run from the abort. -/
theorem test_backoff_without_an_echo :
    (after .backoffEnd { silent .outside with now := 1408, ltx := ⟨.backoff 1 1408, none, true⟩ }).now = 7 * 1408 := by
  decide

/-- 8.7, time 102: an answer removed unsent at its deadline. -/
theorem test_answer_deadline_passed :
    (after .answerDeadlinePassed (ready [entry (.answer 143616), entry (.answer 119680)])).txq = [entry (.answer 143616)] ∧
    (after .answerDeadlinePassed (ready [entry (.answer 143616), entry (.answer 119680)])).cn.counters.late = 1 ∧
    (after .answerDeadlinePassed (ready [entry (.answer 143616), entry (.answer 119680)])).cn.notices = 0x10 := by
  decide +kernel

theorem test_beacon_due : (after .beaconDue { up with ltx := ⟨.ready, none, false⟩ }).ltx.beaconPending = true ∧
    (after .beaconDue up).now = 3686400 ∧ (after .beaconDue held) = held := by decide +kernel

theorem test_cut_character_end :
    ({ up with ltx := ⟨.ready, some ⟨0xBF, true, 0, 128⟩, false⟩ } : State).de = true ∧
    (after .cutCharacterEnd { up with ltx := ⟨.ready, some ⟨0xBF, true, 0, 128⟩, false⟩ }).de = false := by decide

/-! ### The host port -/

theorem witness_StatusByteAndPins : (transmitting (.sending (attempting .entry 0 none))).driving
    = some ⟨0xBF, true, 0, 128⟩ ∧ up.driving = none := by decide

theorem test_status_byte_bits :
    ({ held with cu := .executing 0x51 [], hp := { held.hp with refused := true } } : State).statusByte = 0xC2 ∧
    ({ up with cu := .ready ⟨.done, []⟩, cn := { up.cn with changes := 1, notices := 1 } } : State).statusByte = 0x38 := by
  decide

/-- A transaction in progress. -/
def inTransaction (code : Option Byte) (n : Nat) (loaded : Bool) (s : State) : State :=
  { s with hp := { s.hp with txn := some ⟨code, List.replicate n 0, [], loaded⟩, sdo := [s.statusByte] } }

theorem witness_StatusAndUnknownTransactions : up.inReset = false ∧ up.startUp = false ∧ up.hp.txn = none ∧
    (∀ code ∈ [0, 6, 255], (byte code).toNat = 0 ∨ 5 < (byte code).toNat) ∧
    (inTransaction none 0 false up).hp.txn = some ⟨none, [], [], false⟩ ∧
    (∀ code ∈ [0x01, 0x00, 0x06, 0xFF], (inTransaction (some code) 0 false up).hp.txn
      = some ⟨some code, [], [], false⟩) := by decide

theorem test_status_transaction : (after (.status 0 (.whole [0, 0])) held).hp.sdo = [0x80, 0x80, 0x80] ∧
    (after (.unknownTransaction 0 6 (.whole [0])) held).hp.sdo = [0x80, 0] := by decide

/-- The part with a result in the buffer. -/
def resultReady : State := { up with cu := .ready ⟨.done, [5]⟩ }

theorem witness_SubmitIsDecidedAtTheRiseOfCsN : ∀ s ∈ [up, commanded 0x51 [] up, resultReady],
    s.inReset = false ∧ s.startUp = false ∧ s.hp.txn = none ∧
    (inTransaction none 0 false s).hp.txn = some ⟨none, [], [], false⟩ ∧
    (inTransaction (some 0x02) 3 false s).hp.txn = some ⟨some 0x02, [0, 0, 0], [], false⟩ := by decide

/-- 10.8, steps 2 and 3, and a SUBMIT cut short. -/
theorem test_submit :
    (after (.submit 0 (.whole (submitted 0x20 (uidBytes (U 4) ++ [12, 0, 3, 0x56, 0x2D, 0x33, 1, 2])))) up).cu
      = .executing 0x20 (uidBytes (U 4) ++ [12, 0, 3, 0x56, 0x2D, 0x33, 1, 2]) ∧
    (after (.submit 0 (.whole (submitted 0x52 [0]))) (commanded 0x51 [] up)).hp.refused = true ∧
    (after (.submit 0 (.whole [0x52, 1])) up).cu = .idle ∧
    (after (.submit 0 (.whole (submitted 0x52 []))) up).cu = .ready ⟨.badCommand, []⟩ := by decide +kernel

theorem test_command_unit_check :
    commandOk 0x20 (uidBytes (U 4) ++ [12, 0, 3, 0x56, 0x2D, 0x33, 1, 2]) = true ∧ commandOk 0x20 (uidBytes (U 4)) = false ∧
    commandOk 0x21 [5, 7, 1, 0, 1, 0x41] = true ∧ commandOk 0x50 [1, 0] = false ∧ commandOk 0x14 [] = false := by
  decide +kernel

theorem witness_CommandUnitCheck : ((0x62 : Byte).toNat, 0) ∈ [(0x60, 0), (0x61, 2), (0x62, 0)] ∧
    (∀ code ∈ [0x00, 0x0F, 0x14, 0x25, 0x33, 0x45, 0x55, 0x63, 0xFF], byte code ≠ 0x10 ∧ commandOk (byte code) [] = false) := by
  decide

theorem witness_FetchReadsTheResult : resultReady.cu = .ready ⟨.done, [5]⟩ ∧ resultReady.hp.txn = none ∧
    up.inReset = false ∧ up.startUp = false ∧ (inTransaction none 0 false resultReady).cu = .ready ⟨.done, [5]⟩ ∧
    (∀ n ∈ [2, 3], (inTransaction (some 0x03) n true resultReady).hp.txn
      = some ⟨some 0x03, List.replicate n 0, [], true⟩) ∧ ∀ r, up.cu ≠ .ready r := by
  refine ⟨rfl, rfl, rfl, rfl, rfl, by decide, fun r h => by cases h⟩

/-- 10.8, steps 5 and 7. -/
theorem test_fetch :
    (after (.fetch 0 (.whole [0])) resultReady).cu = resultReady.cu ∧
    (after (.fetch 0 (.whole [0, 0, 0])) resultReady).hp.sdo = [0x20, 0, 1, 5] ∧
    (after (.fetch 0 (.whole [0, 0, 0])) resultReady).cu = .idle ∧
    (after (.fetch 0 (.whole [0, 0])) up).hp.sdo = [0, 0xFF, 0] := by decide

/-- The reports of 11.6 with the latch full. -/
def reporting : State :=
  { up with cn := { up.cn with changes := 0x220, notices := 0x10, latch := some ⟨5, 9, U 9, 0x03, false⟩ } }

/-- A FETCH in parts: the end of byte 0 takes the result, the rise of CS_N with all of it read empties the buffer. -/
theorem test_fetch_in_parts :
    let s1 := after (.fetch 0 .code) (after (.fetch 0 .select) resultReady)
    s1.hp.txn = some ⟨some 0x03, [], [0, 1, 5], true⟩ ∧
    (after (.fetch 0 .deselect) (after (.fetch 0 (.clock [0, 0])) s1)).cu = resultReady.cu ∧
    (after (.fetch 0 .deselect) (after (.fetch 0 (.clock [0, 0, 0])) s1)).cu = .idle ∧
    (after (.fetch 0 (.clock [0, 0, 0])) s1).hp.sdo = [0x20, 0, 1, 5] := by decide

theorem witness_ChangesAndConflictClearWhatTheyReported :
    reporting.inReset = false ∧ reporting.startUp = false ∧ reporting.hp.txn = none ∧
    (inTransaction none 0 false reporting).hp.txn = some ⟨none, [], [], false⟩ ∧
    (∀ n ∈ [8, 9], (inTransaction (some 0x04) n false reporting).hp.txn
      = some ⟨some 0x04, List.replicate n 0, [], false⟩) ∧
    (∀ n ∈ [9, 10], ∀ loaded ∈ [false, true], (inTransaction (some 0x05) n loaded reporting).hp.txn
      = some ⟨some 0x05, List.replicate n 0, [], loaded⟩) := by decide

/-- 11.6, steps 1 and 4: what was set again stays set. -/
theorem test_changes :
    (after (.changes 0 .deselect) { inTransaction (some 0x04) 9 false reporting with
      cn := { reporting.cn with changes := 0x1220, marks := 0x020, noticeMarks := 0x10 } }).cn.changes = 0x1200 ∧
    (after (.changes 0 (.whole (List.replicate 9 0))) reporting).hp.sdo
      = [0x1C, 0x20, 0x02, 0, 0, 0, 0, 0, 0, 0x10] := by decide

/-- 11.6, steps 5 and 7. -/
theorem test_conflict_transaction :
    (after (.conflictTransaction 0 (.whole (List.replicate 10 0))) reporting).hp.sdo
      = [0x1C, 1, 5, 9] ++ uidBytes (U 9) ++ [0x03] ∧
    (after (.conflictTransaction 0 (.whole (List.replicate 10 0))) reporting).cn.latch = none ∧
    (after (.conflictTransaction 0 (.whole (List.replicate 9 0))) reporting).cn.latch = reporting.cn.latch := by decide

theorem witness_FailedCommandChangesNothing :
    (commanded 0x10 [64] up).cu.busy = true ∧
    Runs .readEntry (commanded 0x10 [64] up) (after .readEntry (commanded 0x10 [64] up)) ∧
    (after .readEntry (commanded 0x10 [64] up)).cu = .ready ⟨.badArgument, []⟩ := by
  refine ⟨rfl, rfl, by decide +kernel⟩

/-! ### Host commands -/

/-- The command in the slot passed the command unit's check and waits for TC. -/
abbrev Waits (code : Byte) (args : List Byte) (s : State) : Prop := Serving code args (commanded code args s)

/-- The result code and payload in the result buffer. -/
def result (s : State) : Option (ResultCode × List Byte) :=
  match s.cu with
  | .ready r => some (r.code, r.payload)
  | _ => none

theorem witness_ReadingOneRecord :
    (∀ slot ∈ [0, 2, 7, 63, 64, 255], Waits 0x10 [byte slot] rich) ∧
    (∀ args ∈ [uidBytes 0, uidBytes (BitVec.allOnes 48), uidBytes (U 1), uidBytes (U 11)], Waits 0x11 args rich) ∧
    (∀ a ∈ [0, 1, 6, 60, 61], Waits 0x12 [byte a] rich) ∧ (commanded 0x12 [60] rich).CustodyLaw ∧
    ((rich.recordAt 0).bind Record.address = some 1 ∧ rich.ros.free[0]? = some 6 ∧
      rich.ros.hold[0]?.map HoldItem.address = some 60) := by
  refine ⟨?_, ?_, ?_, witness_CustodyLawKept.1, ?_⟩ <;> decide +kernel

/-- 10.8, step 9: the image of the record that PROVISION made. -/
theorem test_read_entry :
    result (after .readEntry (commanded 0x10 [2] (withRecord { stands .reserved with
        uid := U 4, address := some 12, cls := 0, binds := 0, groups := [2], label := [0x56, 0x2D, 0x33] } up)))
      = some (.done, [2, 1, 3] ++ uidBytes (U 4) ++ [12, 0, 0, 0, 0, 0, 1, 2, 3, 0x56, 0x2D, 0x33]) ∧
    result (after .readEntry (commanded 0x10 [9] up)) = some (.notFound, []) ∧
    result (after .readEntry (commanded 0x10 [64] up)) = some (.badArgument, []) := by decide +kernel

theorem test_find_uid :
    result (after .findUid (commanded 0x11 (uidBytes (U 1)) (withRecord (stands .bound) up)))
      = some (.done, [2, 3, 0] ++ uidBytes (U 1) ++ [5, 0, 8, 7, 1, 0, 0, 0]) ∧
    result (after .findUid (commanded 0x11 (uidBytes (U 9)) up)) = some (.notFound, []) := by decide +kernel

theorem test_find_address :
    result (after .findAddress (commanded 0x12 [3] up)) = some (.done, [1, 2]) ∧
    result (after .findAddress (commanded 0x12 [59] rich)) = some (.done, [2, 1] ++ uidBytes (U 9) ++ [0, 7]) := by
  decide +kernel

theorem witness_ReadingLists : rich.ros.table.length = 64 ∧
    (∀ filter ∈ [0, 1, 2, 0x7E, 0x80], ∀ start ∈ [0, 63, 64], ∀ limit ∈ [0, 1, 6, 7],
      Waits 0x13 [byte filter, byte start, byte limit] rich) ∧
    (∀ start ∈ [0, 1, 7, 8], Waits 0x32 [byte start] rich) ∧ (∀ g ∈ [0, 2, 15, 16], Waits 0x43 [byte g] rich) := by
  refine ⟨?_, ?_, ?_, ?_⟩ <;> decide +kernel

/-- R178: two records from slot 0, and the slot at which the walk goes on. -/
theorem test_list :
    result (after .list (commanded 0x13 [0x7E, 0, 2] rich))
      = some (.done, [2, 0, 3, 1] ++ uidBytes (U 1) ++ [1, 1, 2] ++ uidBytes (U 2) ++ [2]) ∧
    result (after .list (commanded 0x13 [0x40, 0, 6] rich)) = some (.done, [1, 5, 6, 0] ++ uidBytes (U 6) ++ [64]) := by
  decide +kernel

theorem test_read_queue :
    result (after .readQueue (commanded 0x32 [0] rich)) = some (.done, [1] ++ uidBytes (U 10) ++ [3, 6, 0, 8]) ∧
    result (after .readQueue (commanded 0x32 [7] rich)) = some (.done, [1, 8]) := by decide +kernel

/-- R207: slot 1, RESERVED at 2, and slot 0, BOUND at 1, in a word each. -/
theorem test_group_read :
    result (after .groupRead (commanded 0x43 [2] rich)) = some (.done, [1, 2, 0x04, 0x82, 0x01, 0x81]) := by decide +kernel

theorem witness_ConfigPoolAndCounterReportsAndClear : Waits 0x51 [] rich ∧
    (∀ part ∈ [0, 1, 2, 255], Waits 0x52 [byte part] rich) ∧ Waits 0x53 [] rich ∧ Waits 0x54 [] rich := by
  decide +kernel

/-- The defaults of R183 in the order of their numbers. -/
theorem test_read_config :
    result (after .readConfig (commanded 0x51 [] up)) = some (.done,
      [0x01, 0x2C, 0, 30, 0, 3, 0, 60, 0, 60, 0, 250, 0, 4, 0, 0, 0, 1, 0, 3, 0, 4, 0, 4, 0x01, 0xFF]) := by
  decide +kernel

theorem test_read_pool :
    result (after .readPool (commanded 0x52 [0] up)) = some (.done, [60, 1, 0]) ∧
    result (after .readPool (commanded 0x52 [1] { up with ros := { up.ros with hold := [⟨60, U 1, 600, 0⟩] } }))
      = some (.done, [0xF2, 0x58] ++ uidBytes (U 1)) := by decide +kernel

/-- Every counter with a value of its own. -/
def counting : State := { up with cn := { up.cn with counters := ⟨1, 2, 3, 4, 5, 6, 7, 65535⟩ } }

theorem test_read_counters : result (after .readCounters (commanded 0x53 [] counting))
    = some (.done, [0, 1, 0, 2, 0, 3, 0, 4, 0, 5, 0, 6, 0, 7, 0xFF, 0xFF]) := by decide +kernel

theorem test_clear_counters : (after .clearCounters (commanded 0x54 [] counting)).cn.counters = Counters.zero := by decide

/-- PROVISION's arguments: UID, address, pinned flag, label, groups. -/
def provisioned (n address pinned : Nat) (label groups : List Byte) : List Byte :=
  uidBytes (U n) ++ [byte address, byte pinned, byte label.length] ++ label ++ byte groups.length :: groups

theorem witness_ProvisionMakesARecord : up.ros.groups.length = 16 ∧
    ∀ n ∈ [1, 4], ∀ address ∈ [0, 1, 33, 60, 61], ∀ pinned ∈ [0, 1, 2],
      ∀ label ∈ [[], List.replicate 12 0x41, List.replicate 13 0x41],
      ∀ groups ∈ [[], [2, 3, 4, 15], [2, 2], [16], [1, 2, 3, 4, 5]],
        Serving 0x20 (provisioned n address pinned label groups)
          (commanded 0x20 (provisioned n address pinned label groups) up) := by
  refine ⟨rfl, ?_⟩
  decide +kernel

/-- 10.8, step 4. -/
theorem test_provision :
    (after .provision (commanded 0x20 (provisioned 4 12 0 [0x56, 0x2D, 0x33] [2]) up)).recordAt 0 = some { stands .reserved with
      uid := U 4, address := some 12, cls := 0, binds := 0, groups := [2], label := [0x56, 0x2D, 0x33] } ∧
    result (after .provision (commanded 0x20 (provisioned 4 12 0 [0x56, 0x2D, 0x33] [2]) up)) = some (.done, [0]) ∧
    result (after .provision (commanded 0x20 (provisioned 4 60 0 [] []) rich)) = some (.duplicate, []) ∧
    result (after .provision (commanded 0x20 (provisioned 30 60 0 [] []) rich)) = some (.inUse, []) := by
  refine ⟨?_, ?_, ?_, ?_⟩ <;> decide +kernel

theorem witness_EditChangesARecord :
    ∀ args ∈ [[64, 1, 0], [0, 0], [63, 8], [2, 2, 0], [2, 2, 1], [2, 2, 2], [2, 4, 0], [2, 4, 1], [2, 4, 2], [2, 1, 12] ++
        List.replicate 12 0x41, [2, 1, 13] ++ List.replicate 13 0x41, [2, 7, 1, 0, 1, 0x41]],
      ∀ st ∈ [RecState.reserved, .offered, .bound, .lapsed, .evicting, .barred],
      Serving 0x21 args (commanded 0x21 args (withRecord (stands st) up)) := by decide +kernel

/-- R68: pinning a LAPSED record makes it BOUND, with no timer; R182: the reserved flag of a RESERVED record cleared gives
up its address. -/
theorem test_edit :
    (after .edit (commanded 0x21 [2, 2, 1] (withRecord (stands .lapsed) up))).recordAt 2
      = some { stands .bound with pinned := true, remaining := none } ∧
    (after .edit (commanded 0x21 [2, 4, 0] (withRecord (stands .reserved) up))).recordAt 2 = some unaddressed ∧
    (after .edit (commanded 0x21 [2, 4, 0] (withRecord (stands .reserved) up))).ros.hold = [⟨5, U 1, 60, 0⟩] ∧
    result (after .edit (commanded 0x21 [2, 4, 1] (withRecord (stands .bound) up))) = some (.badState, []) := by
  refine ⟨?_, ?_, ?_, ?_⟩ <;> decide +kernel

theorem witness_EvictAndDelete : ∀ code ∈ [0x22, 0x23], ∀ slot ∈ [0, 2, 63, 64],
    ∀ st ∈ [RecState.reserved, .offered, .bound, .lapsed, .evicting, .barred],
    Serving code [byte slot] (commanded code [byte slot] (withRecord (stands st) up)) := by decide +kernel

theorem test_evict :
    (after .evict (commanded 0x22 [2] (withRecord (stands .bound) up))).recordAt 2 = some (stands .evicting) ∧
    answers (after .evict (commanded 0x22 [2] (withRecord (stands .bound) up))) = [(5, 0xC1, 0, uidBytes (U 1) ++ [2])] ∧
    result (after .evict (commanded 0x22 [2] (withRecord (stands .bound) { up with txq := List.replicate 6 (entry .offer) })))
      = some (.full, []) := by decide +kernel

theorem test_delete :
    (after .delete (commanded 0x23 [2] (withRecord (stands .reserved) up))).recordAt 2 = none ∧
    (after .delete (commanded 0x23 [2] (withRecord (stands .reserved) up))).ros.hold = [⟨5, U 1, 60, 0⟩] ∧
    result (after .delete (commanded 0x23 [2] (withRecord (stands .bound) up))) = some (.badState, []) := by decide +kernel

theorem witness_BarApproveAndDeny :
    (∀ args ∈ [uidBytes 0, uidBytes (U 1), uidBytes (U 2), uidBytes (U 10), uidBytes (U 11)],
      Waits 0x24 args rich ∧ Waits 0x30 args rich) ∧
    ∀ args ∈ [uidBytes 0, uidBytes (U 10), uidBytes (U 11)], ∀ flag ∈ [0, 1, 2],
      Serving 0x31 (args ++ [byte flag]) (commanded 0x31 (args ++ [byte flag]) rich) := by
  refine ⟨?_, ?_⟩ <;> decide +kernel

theorem test_bar :
    (after .bar (commanded 0x24 (uidBytes (U 1)) (withRecord (stands .reserved) up))).recordAt 2 = some (stands .barred) ∧
    result (after .bar (commanded 0x24 (uidBytes (U 1)) (withRecord (stands .bound) up))) = some (.badState, []) ∧
    result (after .bar (commanded 0x24 (uidBytes (U 9)) up)) = some (.done, [0]) := by decide +kernel

/-- 4.7, time 8: the preferred address out of the middle of the free list. -/
def approving : State :=
  { up with ros := { up.ros with free := [9, 12, 31, 44], apq := queued 2 ++ [⟨U 7, 9, some 12, 57⟩] } }

theorem test_approve :
    (after .approve (commanded 0x30 (uidBytes (U 7)) approving)).recordAt 0 = some { stands .offered with
      uid := U 7, address := some 12, remaining := some 3, cls := 9, binds := 0 } ∧
    (after .approve (commanded 0x30 (uidBytes (U 7)) approving)).ros.free = [9, 31, 44] ∧
    answers (after .approve (commanded 0x30 (uidBytes (U 7)) approving))
      = [(61, 0x83, 0, uidBytes (U 7) ++ [12, 0x01, 0x2C, 3, 0, 0])] ∧
    (after .approve (commanded 0x30 (uidBytes (U 7)) { approving with ros := { approving.ros with free := [] } })).cn.notices
      = 4 := by
  refine ⟨?_, ?_, ?_, ?_⟩ <;> decide +kernel

theorem test_deny :
    (after .deny (commanded 0x31 (uidBytes (U 7) ++ [0]) approving)).ros.apq = queued 2 ∧
    (after .deny (commanded 0x31 (uidBytes (U 7) ++ [1]) approving)).recordAt 0 = some { stands .barred with
      uid := U 7, cls := 9, binds := 0 } := by decide +kernel

theorem witness_GroupAddRemoveAndOpen : ∀ code ∈ [0x40, 0x41, 0x44], ∀ x ∈ [0, 1, 7, 15, 16, 63, 64], ∀ g ∈ [0, 2, 15, 16],
    Serving code [byte x, byte g] (commanded code [byte x, byte g] rich) := by decide +kernel

/-- 6.6, step 3: the host's GROUP ADD to a full group. -/
theorem test_group_add :
    ((after .groupAdd (commanded 0x40 [4, 3] grouped)).recordAt 4).map Record.groups = some [2, 3] ∧
    ((after .groupAdd (commanded 0x40 [4, 3] grouped)).group 3).members = [4] ∧
    result (after .groupAdd (commanded 0x40 [4, 2] fullGroup)) = some (.full, []) ∧
    result (after .groupAdd (commanded 0x40 [4, 2] grouped)) = some (.duplicate, []) := by decide +kernel

theorem test_group_remove :
    ((after .groupRemove (commanded 0x41 [4, 2] grouped)).recordAt 4).map Record.groups = some [] ∧
    result (after .groupRemove (commanded 0x41 [4, 3] grouped)) = some (.notFound, []) := by decide +kernel

/-- 6.6, step 6. -/
theorem test_group_open :
    (after .groupOpen (commanded 0x44 [2, 0] grouped)).group 2 = ⟨false, [4]⟩ ∧
    (after .groupOpen (commanded 0x44 [2, 0] grouped)).cn = grouped.cn := by decide +kernel

theorem witness_GroupClearEmptiesTheGroup : (∀ g ∈ [0, 2, 15, 16], Waits 0x42 [byte g] rich) ∧
    (commanded 0x42 [2] rich).GroupLaw ∧ (rich.group 2).members = [1, 0] :=
  ⟨by decide +kernel, witness_GroupLawKept.1, rfl⟩

theorem test_group_clear :
    result (after .groupClear (commanded 0x42 [2] rich)) = some (.done, [2]) ∧
    ((after .groupClear (commanded 0x42 [2] rich)).recordAt 1).map Record.groups = some [3] ∧
    (after .groupClear (commanded 0x42 [2] rich)).cn.changes = 3 := by decide +kernel

theorem witness_ConfigureSetsParameters :
    ∀ args ∈ [[], [1, 0, 9], [1, 0, 10], [1, 0x0E, 0x10], [1, 0x0E, 0x11], [2, 0, 5, 2, 0, 6], [12, 0, 6], [13, 2, 0], [0, 0, 1],
        [14, 0, 1], [2, 0, 5, 12, 0, 3]], ∀ s ∈ [up, held],
      Serving 0x50 args (commanded 0x50 args s) := by decide +kernel

theorem test_configure :
    (after .configure (commanded 0x50 [6, 0x07, 0xD0, 8, 0, 2] up)).cfg
      = { Params.default with beaconPeriod := 2000, policy := .closed } ∧
    result (after .configure (commanded 0x50 [1, 0, 20, 6, 0, 55] up)) = some (.badArgument, []) ∧
    result (after .configure (commanded 0x50 [12, 0, 3] up)) = some (.badState, []) ∧
    (after .configure (commanded 0x50 [12, 0, 3] { held with lrx := { held.lrx with sil := .since 0 } })).lrx.sil
      = .awaitOne true := by decide +kernel

theorem witness_HoldAndRelease : ∀ s ∈ [up, held], Waits 0x60 [] s ∧ Waits 0x61 [0, 42] s := by decide +kernel

theorem test_hold :
    (after .hold (commanded 0x60 [] (transmitting (.window 78)))).ltx = ⟨.ready, none, false⟩ ∧
    (after .hold (commanded 0x60 [] up)).ctl.mode = .held ∧
    result (after .hold (commanded 0x60 [] held)) = some (.badState, []) := by decide +kernel

/-- 12.6, step 9: the epoch given, a beacon due at once, the clock's phase kept. -/
theorem test_release :
    (after .release (commanded 0x61 [0, 42] held)).ctl = ⟨.running, 42⟩ ∧
    (after .release (commanded 0x61 [0, 42] held)).ltx.beaconPending = true ∧
    (after .release (commanded 0x61 [0, 42] held)).clk = ⟨5, some ⟨0, 3686400⟩⟩ := by decide +kernel

theorem witness_RosterClearEmptiesTheRoster : Serving 0x62 [] (commanded 0x62 [] rich) := by decide +kernel

theorem test_roster_clear :
    (after .rosterClear (commanded 0x62 [] rich)).ros = Roster.empty ∧
    (after .rosterClear (commanded 0x62 [] rich)).ctl.mode = .held ∧
    (after .rosterClear (commanded 0x62 [] rich)).de = true ∧
    (after .rosterClear (commanded 0x62 [] rich)).txq = [] := by decide +kernel

/-- On an empty queue the block idles; no row of the table has bits, so no word spells a command (log entries 4, 5). -/
theorem test_empty_queue_idles : step State.reset = .next State.reset ∧ decodeTableWord 8 0 = none := ⟨rfl, rfl⟩

end Sys2Proof.Tests
end

/-! PROOF. LIST, READ QUEUE and GROUP READ (R178, R86, R114) check their arguments, report, and change nothing else. -/

namespace Sys2Proof.Machine

variable (s : State)

/-- LIST's three arguments: the filter, the start slot and the maximum count (R178). -/
@[simp] theorem byteAt_triple_zero (a b c : Byte) : byteAt [a, b, c] 0 = a := rfl
@[simp] theorem natAt_triple_one (a b c : Byte) : natAt [a, b, c] 1 = b.toNat := rfl
@[simp] theorem natAt_triple_two (a b c : Byte) : natAt [a, b, c] 2 = c.toNat := rfl

/-- A command that only reports changes the result buffer alone: BAD_ARGUMENT when its check fails, else DONE with its
payload (R170, R174). -/
theorem State.serveCommand_checkedReport (code : Byte) (args : List Byte) (report : List Byte → State → Result)
    (bad : Prop) [Decidable bad] (payload : List Byte) (h : Serving code args s)
    (hr : report args s = if bad then result .badArgument else done payload) :
    s.serveCommand code (fun args s => (report args s, s)) =
      if bad then s.resulted .badArgument [] else s.resulted .done payload := by
  rw [s.serveCommand_serving code args _ h, hr]
  split <;> rfl

/-! ### LIST (R178) -/

/-- The walk passes over a VACANT slot. -/
theorem matching_vacant (filter : Byte) (slot : Nat) (rest : List (Option Record)) :
    matching filter slot (none :: rest) = matching filter (slot + 1) rest := rfl

/-- The walk takes an occupied slot whose record's state the filter names. -/
theorem matching_occupied (filter : Byte) (slot : Nat) (r : Record) (rest : List (Option Record)) :
    matching filter slot (some r :: rest) =
      if filter.getLsbD (stateNumber r.state) then (slot, r) :: matching filter (slot + 1) rest
      else matching filter (slot + 1) rest := rfl

/-- The walk from slot `start` over a table takes, in slot order, the occupied slots whose state the filter names. -/
theorem matching_drop (filter : Byte) (t : List (Option Record)) (start : Nat) :
    matching filter start (t.drop start) =
      (List.range' start (t.length - start)).filterMap fun slot =>
        (t[slot]?).join.bind fun r => if filter.getLsbD (stateNumber r.state) then some (slot, r) else none := by
  induction hn : t.length - start generalizing start with
  | zero => rw [List.drop_eq_nil_of_le (by omega)]; rfl
  | succ n ih =>
    have inTable : start < t.length := by omega
    have further := ih (start + 1) (by omega)
    rw [List.drop_eq_getElem_cons inTable, List.range'_succ, List.filterMap_cons, List.getElem?_eq_getElem inTable]
    rcases t[start] with _ | r
    · simp [matching_vacant, further]
    · by_cases named : filter.getLsbD (stateNumber r.state) = true <;> simp [matching_occupied, named, further]

/-- LIST reports the slots the walk takes, at most `limit` of them, and where to go on. -/
theorem State.list_runs (full : s.ros.table.length = 64) (filter start limit : Byte)
    (h : Serving 0x13 [filter, start, limit] s) :
    let taken := ((List.range' start.toNat (64 - start.toNat)).filterMap fun slot =>
      (s.recordAt slot).bind fun r =>
        if filter.getLsbD (stateNumber r.state) then some (slot, r) else none).take limit.toNat
    Runs .list s
      (if filter = 0 ∨ filter.getLsbD 0 = true ∨ filter.getLsbD 7 = true ∨ 63 < start.toNat ∨ limit.toNat < 1
          ∨ 6 < limit.toNat then s.resulted .badArgument []
      else s.resulted .done ([byte taken.length] ++ taken.flatMap (fun x => listSummary x.1 x.2)
        ++ [byte (continuation taken limit.toNat)])) := by
  refine congrArg Host.Outcome.next (s.serveCommand_checkedReport _ _ (fun args s => s.listResult args) _ _ h ?_)
  have walk := matching_drop filter s.ros.table start.toNat
  rw [full] at walk
  simp only [State.listResult, byteAt_triple_zero, natAt_triple_one, natAt_triple_two, walk, State.recordAt]

/-! ### READ QUEUE (R86) -/

/-- READ QUEUE reports the queue's length, its items from the position on, and the next position. -/
theorem State.readQueue_runs (start : Byte) (h : Serving 0x32 [start] s) :
    let items := (s.ros.apq.drop start.toNat).take 6
    Runs .readQueue s
      (if 7 < start.toNat then s.resulted .badArgument []
      else s.resulted .done ([byte s.ros.apq.length] ++ items.flatMap queueItemBytes
        ++ [byte (if items = [] ∨ s.ros.apq.length ≤ start.toNat + items.length then 8
          else start.toNat + items.length)])) :=
  congrArg Host.Outcome.next (s.serveCommand_checkedReport _ _ (fun args s => s.readQueueResult args) _ _ h rfl)

/-! ### GROUP READ (R114) -/

/-- A member word has the slot above the record's state and address, which read 0 for a VACANT slot (R207). -/
theorem State.memberWordOf_eq (slot : Nat) :
    s.memberWordOf slot = 1024 * slot + match s.recordAt slot with
      | some r => 128 * stateNumber r.state + r.address.getD 0
      | none => 0 := by
  unfold State.memberWordOf
  cases s.recordAt slot with
  | none => rfl
  | some r => exact Nat.add_assoc _ _ _

/-- GROUP READ reports the open flag, the member count and a word for each member in member-list order. -/
theorem State.groupRead_runs (g : Byte) (h : Serving 0x43 [g] s) :
    let members := (s.group g.toNat).members
    Runs .groupRead s
      (if 15 < g.toNat then s.resulted .badArgument []
      else s.resulted .done ([flagByte (s.group g.toNat).isOpen, byte members.length]
        ++ members.flatMap fun slot => be16 (s.memberWordOf slot))) :=
  congrArg Host.Outcome.next (s.serveCommand_checkedReport _ _ (fun args s => s.groupReadResult args) _ _ h rfl)

/-- Settles O50: the three commands' reports, with the layouts of R207 written out. -/
theorem readingLists : Obligations.ReadingLists := by
  unfold Obligations.ReadingLists
  intro s full
  refine ⟨s.list_runs full, s.readQueue_runs, fun g h => ?_⟩
  have report := s.groupRead_runs g h
  simp only [s.memberWordOf_eq] at report
  exact report

end Sys2Proof.Machine

/-! PROOF. EVICT and DELETE (R96, R103) check their slot alike, then the record's state, and act on that record alone. -/

namespace Sys2Proof.Machine

variable (s : State)

/-! ### A command on one slot's record -/

/-- A command on one slot refuses a slot above 63 and then a VACANT one; otherwise it serves the slot's record
(checks 1 and 2 of R96 and R103). -/
theorem State.serveCommand_onSlot (code slot : Byte) (run : List Byte → State → Result × State)
    (act : Record → Result × State) (served : Record → State) (h : Serving code [slot] s)
    (checks : run [slot] s =
      if 63 < slot.toNat then (result .badArgument, s)
      else
        match s.recordAt slot.toNat with
        | none => (result .notFound, s)
        | some rd => act rd)
    (serves : ∀ rd, (act rd).2.setCu (.ready (act rd).1) = served rd) :
    s.serveCommand code run =
      if 63 < slot.toNat then s.resulted .badArgument []
      else
        match s.recordAt slot.toNat with
        | none => s.resulted .notFound []
        | some rd => served rd := by
  rw [s.serveCommand_serving code [slot] run h, checks]
  by_cases beyond : 63 < slot.toNat
  · simp only [if_pos beyond, s.setCu_result]
  · simp only [if_neg beyond]
    cases s.recordAt slot.toNat with
    | none => exact s.setCu_result .notFound
    | some rd => exact serves rd

/-! ### EVICT (R96, R97) -/

/-- An eviction stops the record's timer, moves it to EVICTING, marks the slot and queues the EVICT frame. -/
theorem State.evicted_eq (slot : Nat) (rd : Record) :
    ((s.change slot { rd with state := .evicting, remaining := none }).enqueue
        (unsolicitedEntry (.evict slot) (rd.address.getD 0) 0xC1 (uidBytes rd.uid ++ [2]))).setCu (.ready (done [])) =
      { s.resulted .done [] with
        ros := { s.ros with table := s.ros.table.set slot (some { rd with state := .evicting, remaining := none }) }
        cn := s.cn.marked slot
        txq := s.txq ++ [
          { kind := .evict slot, attempts := 0, inAttempt := false
            frame := { ftype := 2, dest := rd.address.getD 0, code := 0xC1, tag := 0,
                       payload := uidBytes rd.uid ++ [2] } }] } := rfl

/-! ### DELETE (R3, R103) -/

/-- A deletion empties the slot, takes it out of every group, gives up the record's address and marks the slot. -/
theorem State.deleted_eq (slot : Nat) (rd : Record) :
    let ros : Roster := { s.ros with
      table := s.ros.table.set slot none
      groups := s.ros.groups.map fun g => { g with members := g.members.erase slot } }
    ((s.remove slot).giveUpOf rd).setCu (.ready (done [])) =
      { s.resulted .done [] with
        ros := match rd.address with
          | some a => ros.gaveUp s.cfg.holdTime a rd.uid
          | none => ros
        cn := s.cn.marked slot } := by
  rw [State.giveUpOf_eq, State.remove_eq]
  cases rd.address with
  | none => rfl
  | some a => rfl

/-- Settles O54: after the checks on the slot, EVICT refuses a record in RESERVED, EVICTING or BARRED, then a full TXQ,
and DELETE refuses a record in an active state. -/
theorem evictAndDelete : Obligations.EvictAndDelete := by
  unfold Obligations.EvictAndDelete
  intro slot s
  constructor
  · intro h
    refine congrArg Host.Outcome.next
      (s.serveCommand_onSlot 0x22 slot (fun args s => s.evict args) _ _ h rfl fun rd => ?_)
    by_cases unfit : rd.state = .reserved ∨ rd.state = .evicting ∨ rd.state = .barred
    · simp only [if_pos unfit, s.setCu_result]
    · by_cases queueFull : 6 ≤ s.txq.length
      · simp only [if_neg unfit, if_pos queueFull, s.setCu_result]
      · simp only [if_neg unfit, if_neg queueFull]
        exact s.evicted_eq slot.toNat rd
  · intro h
    refine congrArg Host.Outcome.next
      (s.serveCommand_onSlot 0x23 slot (fun args s => s.deleteRecord args) _ _ h rfl fun rd => ?_)
    by_cases active : rd.state.active = true
    · simp only [if_pos active, s.setCu_result]
    · simp only [if_neg active]
      exact s.deleted_eq slot.toNat rd

end Sys2Proof.Machine

/-! PROOF. The host's group commands (R109 to R113): GROUP ADD, GROUP REMOVE and GROUP OPEN act on one slot and one group
each, and GROUP CLEAR lets every member of a group leave it. -/

namespace Sys2Proof.Machine

variable (s : State)

/-! ### A member list replaced -/

/-- What a change of group `g` does to the groups depends on the group that stands there alone. -/
theorem State.modify_group_congr (g : Nat) (f f' : Group → Group) (h : f (s.group g) = f' (s.group g)) :
    s.ros.groups.modify g f = s.ros.groups.modify g f' := by
  apply List.ext_getElem?
  intro i
  by_cases here : g = i
  · subst here
    rw [List.getElem?_modify_eq, List.getElem?_modify_eq]
    cases stands : s.ros.groups[g]? with
    | none => rfl
    | some x =>
      have isGroup : s.group g = x := by simp [State.group, stands]
      rw [isGroup] at h
      exact congrArg some h
  · rw [List.getElem?_modify_ne _ _ here, List.getElem?_modify_ne _ _ here]

/-- A group with a member is one of the groups that stand (R108). -/
theorem State.group_lt_of_mem (g slot : Nat) (h : slot ∈ (s.group g).members) : g < s.ros.groups.length := by
  by_contra beyond
  simp [State.group, List.getElem?_eq_none (Nat.le_of_not_lt beyond)] at h

/-! ### A slot leaves a group (R109) -/

/-- The record with a group number taken out of its groups. -/
def Record.without (g : Nat) (r : Record) : Record := { r with groups := r.groups.erase g }

/-- A slot that leaves a group changes the table, that group's member list and the slot's change bit, and nothing else. -/
theorem State.leaveGroup_frame (slot g : Nat) :
    s.leaveGroup slot g = { s with
      ros := { s.ros with
        table := (s.leaveGroup slot g).ros.table
        groups := s.ros.groups.modify g fun x => { x with members := (s.group g).members.erase slot } }
      cn := s.cn.marked slot } := by
  cases record : s.recordAt slot with
  | none => rw [s.leaveGroup_vacant slot g record]
  | some r => rw [s.leaveGroup_eq slot g r record]

theorem State.leaveGroup_tableLength (slot g : Nat) :
    (s.leaveGroup slot g).ros.table.length = s.ros.table.length := by
  cases record : s.recordAt slot with
  | none => rw [s.leaveGroup_vacant slot g record]
  | some r => rw [s.leaveGroup_eq slot g r record]; exact List.length_set

/-- A slot that leaves a group changes no other slot's record. -/
theorem State.leaveGroup_recordAt (slot g i : Nat) :
    (s.leaveGroup slot g).recordAt i =
      (s.recordAt i).map fun r => if i = slot then r.without g else r := by
  by_cases here : i = slot
  · subst here
    simp only [if_true]
    cases record : s.recordAt i with
    | none => rw [s.leaveGroup_vacant i g record]; exact record
    | some r =>
      rw [s.leaveGroup_eq i g r record]
      exact (s.recordAt_putRecord i i (r.without g) (s.recordAt_lt i r record)).trans (if_pos rfl)
  · simp only [if_neg here, Option.map_id_fun', id]
    cases record : s.recordAt slot with
    | none => rw [s.leaveGroup_vacant slot g record]; rfl
    | some r =>
      rw [s.leaveGroup_eq slot g r record]
      exact (s.recordAt_putRecord slot i (r.without g) (s.recordAt_lt slot r record)).trans (if_neg here)

/-- The group that a slot left has the slot erased from its member list. -/
theorem State.leaveGroup_members (slot g : Nat) (h : slot ∈ (s.group g).members) :
    ((s.leaveGroup slot g).group g).members = (s.group g).members.erase slot := by
  have stands := List.getElem?_eq_getElem (s.group_lt_of_mem g slot h)
  rw [s.leaveGroup_frame slot g]
  simp [State.group, stands]

/-! ### Every member leaves a group (R112) -/

/-- The slots of a list leave a group one by one, as GROUP CLEAR has them do. -/
def State.leaveEach (g : Nat) (slots : List Nat) (s : State) : State :=
  slots.foldl (fun s slot => s.leaveGroup slot g) s

@[simp] theorem State.leaveEach_nil (g : Nat) : s.leaveEach g [] = s := rfl

@[simp] theorem State.leaveEach_cons (g slot : Nat) (rest : List Nat) :
    s.leaveEach g (slot :: rest) = (s.leaveGroup slot g).leaveEach g rest := rfl

/-- The change and notice unit with the bits of several slots set and no longer unrepeated (R188, R191). -/
def Cn.markedEach (slots : List Nat) (c : Cn) : Cn := slots.foldl (fun c slot => c.marked slot) c

@[simp] theorem Cn.markedEach_nil (c : Cn) : c.markedEach [] = c := rfl

@[simp] theorem Cn.markedEach_cons (c : Cn) (slot : Nat) (rest : List Nat) :
    c.markedEach (slot :: rest) = (c.marked slot).markedEach rest := rfl

/-- When its members leave one by one, the group ends empty, and only the table and the change bits change with it. -/
theorem State.leaveEach_members (g : Nat) (slots : List Nat) (h : (s.group g).members = slots) :
    s.leaveEach g slots = { s with
      ros := { s.ros with
        table := (s.leaveEach g slots).ros.table
        groups := s.ros.groups.modify g fun x => { x with members := [] } }
      cn := s.cn.markedEach slots } := by
  induction slots generalizing s with
  | nil =>
    have emptyAlready : s.ros.groups.modify g (fun x => { x with members := [] }) = s.ros.groups := by
      rw [s.modify_group_congr g _ id (by rw [← h]; rfl), List.modify_id]
    simp [emptyAlready]
  | cons slot rest ih =>
    have member : slot ∈ (s.group g).members := h ▸ List.mem_cons_self
    have left : ((s.leaveGroup slot g).group g).members = rest := by
      rw [s.leaveGroup_members slot g member, h, List.erase_cons_head]
    refine (ih _ left).trans ?_
    rw [s.leaveEach_cons]
    generalize ((s.leaveGroup slot g).leaveEach g rest).ros.table = table
    rw [s.leaveGroup_frame slot g]
    simp [List.modify_modify_eq, Function.comp_def]

theorem State.leaveEach_tableLength (g : Nat) (slots : List Nat) :
    (s.leaveEach g slots).ros.table.length = s.ros.table.length := by
  induction slots generalizing s with
  | nil => rfl
  | cons slot rest ih => exact (ih (s.leaveGroup slot g)).trans (s.leaveGroup_tableLength slot g)

/-- Each slot that leaves has the group number taken out of its record once, and no other record changes. -/
theorem State.leaveEach_recordAt (g i : Nat) (slots : List Nat) (distinct : slots.Nodup) :
    (s.leaveEach g slots).recordAt i = (s.recordAt i).map fun r => if i ∈ slots then r.without g else r := by
  induction slots generalizing s with
  | nil => simp
  | cons slot rest ih =>
    obtain ⟨fresh, distinct⟩ := List.nodup_cons.1 distinct
    rw [s.leaveEach_cons, ih _ distinct, s.leaveGroup_recordAt slot g i, Option.map_map]
    by_cases here : i = slot
    · subst here; simp [fresh, Function.comp_def]
    · simp [here, Function.comp_def]

/-- Marking slots touches the change bits and their marks only. -/
theorem Cn.markedEach_frame (slots : List Nat) (c : Cn) :
    c.markedEach slots =
      { c with changes := (c.markedEach slots).changes, marks := (c.markedEach slots).marks } := by
  induction slots generalizing c with
  | nil => rfl
  | cons slot rest ih => exact ih (c.marked slot)

/-- Marking a slot sets its change bit, takes its mark away, and leaves every other slot's alone. -/
theorem Cn.marked_bits (slot i : Nat) (c : Cn) (inSet : i < 64) :
    (c.marked slot).changes.getLsbD i = (c.changes.getLsbD i || decide (i = slot)) ∧
    (c.marked slot).marks.getLsbD i = (c.marks.getLsbD i && decide (i ≠ slot)) := by
  have bit : (1#64 <<< slot).getLsbD i = decide (i = slot) := by
    rw [BitVec.getLsbD_shiftLeft, BitVec.getLsbD_one, Bool.eq_iff_iff]
    simp only [Bool.and_eq_true, Bool.not_eq_true', decide_eq_true_eq, decide_eq_false_iff_not]
    omega
  constructor
  · simp only [Cn.marked, BitVec.getLsbD_or, bit]
  · simp only [Cn.marked, BitVec.getLsbD_and, BitVec.getLsbD_not, bit, inSet, decide_true, Bool.true_and, decide_not]

theorem Cn.markedEach_bits (slots : List Nat) (i : Nat) (c : Cn) (inSet : i < 64) :
    (c.markedEach slots).changes.getLsbD i = (c.changes.getLsbD i || decide (i ∈ slots)) ∧
    (c.markedEach slots).marks.getLsbD i = (c.marks.getLsbD i && decide (i ∉ slots)) := by
  induction slots generalizing c with
  | nil => simp
  | cons slot rest ih =>
    obtain ⟨changes, marks⟩ := ih (c.marked slot)
    obtain ⟨change, mark⟩ := c.marked_bits slot i inSet
    rw [c.markedEach_cons, changes, marks, change, mark]
    simp [Bool.or_assoc, Bool.and_assoc]

/-! ### The commands -/

/-- A check of a command refuses with its code and changes nothing else, or lets the command go on (R174). -/
theorem State.serve_check (refused : Prop) [Decidable refused] (code : ResultCode) (goOn : Result × State) :
    (if refused then (result code, s) else goOn).2.setCu
        (.ready (if refused then (result code, s) else goOn).1) =
      if refused then s.resulted code [] else goOn.2.setCu (.ready goOn.1) := by
  split <;> rfl

/-- GROUP ADD's checks in order, then the slot joins the group at both tails (R110). -/
theorem State.groupAdd_serves (x g : Byte) (h : Serving 0x40 [x, g] s) :
    s.serveCommand 0x40 (fun args s => s.groupAdd args) =
      if 63 < x.toNat ∨ 15 < g.toNat then s.resulted .badArgument []
      else
        match s.recordAt x.toNat with
        | none => s.resulted .notFound []
        | some rd =>
          if rd.state = .barred then s.resulted .badState []
          else if x.toNat ∈ (s.group g.toNat).members then s.resulted .duplicate []
          else if 4 ≤ rd.groups.length then s.resulted .limit []
          else if 24 ≤ (s.group g.toNat).members.length then s.resulted .full []
          else (s.joinGroup x.toNat g.toNat).resulted .done [] := by
  rw [s.serveCommand_serving 0x40 [x, g] _ h]
  refine (s.serve_check _ .badArgument _).trans (if_congr Iff.rfl rfl ?_)
  rw [natAt_pair_zero, natAt_pair_one]
  cases s.recordAt x.toNat with
  | none => exact s.setCu_result .notFound
  | some rd => simp only [s.serve_check]; rfl

/-- GROUP REMOVE's checks in order, then the slot leaves the group (R111). -/
theorem State.groupRemove_serves (x g : Byte) (h : Serving 0x41 [x, g] s) :
    s.serveCommand 0x41 (fun args s => s.groupRemove args) =
      if 63 < x.toNat ∨ 15 < g.toNat then s.resulted .badArgument []
      else if x.toNat ∉ (s.group g.toNat).members then s.resulted .notFound []
      else (s.leaveGroup x.toNat g.toNat).resulted .done [] := by
  rw [s.serveCommand_serving 0x41 [x, g] _ h]
  simp only [State.groupRemove, s.serve_check]
  rfl

/-- GROUP OPEN's check, then the open flag is set (R113). -/
theorem State.groupOpen_serves (g flag : Byte) (h : Serving 0x44 [g, flag] s) :
    s.serveCommand 0x44 (fun args s => s.groupOpen args) =
      if 15 < g.toNat ∨ 1 < flag.toNat then s.resulted .badArgument []
      else (s.setGroups (s.ros.groups.modify g.toNat fun y => { y with isOpen := decide (flag.toNat = 1) })).resulted
        .done [] := by
  rw [s.serveCommand_serving 0x44 [g, flag] _ h]
  exact s.serve_check _ .badArgument _

/-- GROUP CLEAR's check, then every member leaves and their number is reported (R112). -/
theorem State.groupClear_serves (g : Byte) (h : Serving 0x42 [g] s) :
    s.serveCommand 0x42 (fun args s => s.groupClear args) =
      if 15 < g.toNat then s.resulted .badArgument []
      else (s.leaveEach g.toNat (s.group g.toNat).members).resulted .done
        [byte (s.group g.toNat).members.length] := by
  rw [s.serveCommand_serving 0x42 [g] _ h]
  exact s.serve_check _ .badArgument _

/-- Settles O56: each command's checks as it makes them, with a slot's joining and leaving written out. -/
theorem groupAddRemoveAndOpen : Obligations.GroupAddRemoveAndOpen := by
  unfold Obligations.GroupAddRemoveAndOpen
  intro x g s
  refine ⟨fun h => ?_, fun h => ⟨fun beyond => ?_, fun slotOk groupOk outside => ?_,
    fun rd slotOk groupOk member record => ?_⟩, fun h => ?_⟩
  · refine congrArg Host.Outcome.next ((s.groupAdd_serves x g h).trans ?_)
    cases record : s.recordAt x.toNat with
    | none => rfl
    | some rd => simp only [s.joinGroup_eq _ _ rd record]; rfl
  · exact congrArg Host.Outcome.next ((s.groupRemove_serves x g h).trans (if_pos beyond))
  · have within : ¬ (63 < x.toNat ∨ 15 < g.toNat) := by omega
    refine congrArg Host.Outcome.next ((s.groupRemove_serves x g h).trans ?_)
    rw [if_neg within, if_pos outside]
  · have within : ¬ (63 < x.toNat ∨ 15 < g.toNat) := by omega
    refine congrArg Host.Outcome.next ((s.groupRemove_serves x g h).trans ?_)
    rw [if_neg within, if_neg (not_not_intro member), s.leaveGroup_eq _ _ rd record]
    rfl
  · exact congrArg Host.Outcome.next (s.groupOpen_serves x g h)

/-- Settles O57: GROUP CLEAR lets each member leave once, because no slot stands twice in a member list. -/
theorem groupClearEmptiesTheGroup : Obligations.GroupClearEmptiesTheGroup := by
  unfold Obligations.GroupClearEmptiesTheGroup
  intro x s h
  refine ⟨fun beyond => congrArg Host.Outcome.next ((s.groupClear_serves x h).trans (if_pos beyond)),
    fun within law => ?_⟩
  obtain ⟨-, memberLists, -⟩ := law
  have distinct : (s.group x.toNat).members.Nodup := (memberLists x.toNat (by omega)).1
  have cleared := s.leaveEach_members x.toNat _ rfl
  have marked : (s.leaveEach x.toNat (s.group x.toNat).members).cn = s.cn.markedEach (s.group x.toNat).members :=
    congrArg State.cn cleared
  refine ⟨_, congrArg Host.Outcome.next ((s.groupClear_serves x h).trans (if_neg (by omega))), ?_,
    congrArg State.ros cleared, s.leaveEach_tableLength _ _, fun slot => s.leaveEach_recordAt _ slot _ distinct,
    marked ▸ Cn.markedEach_frame _ s.cn, fun slot inSet => marked ▸ Cn.markedEach_bits _ slot s.cn inSet⟩
  rw [cleared]
  rfl

end Sys2Proof.Machine

/-! PROOF. The station group requests (R115 to R117): SUBSCRIBE and UNSUBSCRIBE change the source's membership of one group,
and GROUP LIST only answers. -/

namespace Sys2Proof.Machine

variable (r : Request) (s : State)

/-! ### Serving a lookup or group request -/

/-- A request that passes the admission of a lookup or group code is served on the rest of RXQ, and its answer goes to its
source (R152, R159). -/
theorem State.takeRequest_servedBound (b : Bool) (code : Byte) (serve : Request → State → State) (rest : List Request)
    (notJoin : code ≠ 0x01) (h : ServedBound b code r rest s) :
    s.takeRequest (fun c => c == code) b serve = serve r { s with rxq := rest } ∧ r.source ≠ 61 ∧ r.code ≠ 0x01 := by
  obtain ⟨taking, heard, isCode, bound⟩ := h
  have other : r.code ≠ 0x01 := isCode ▸ notJoin
  have ⟨_, _, _, _, _, _, joinFrom61⟩ := heard
  exact ⟨s.takeRequest_heard r _ b serve rest taking heard (fun _ => bound) (by simp [isCode]),
    fun from61 => other (joinFrom61 from61), other⟩

/-! ### SUBSCRIBE and UNSUBSCRIBE (R115, R116) -/

/-- The state with a REFUSE of the reason queued for the source (R162). -/
def State.refusedWith (reason : Byte) (s : State) : State :=
  { s with txq := s.txq ++ [answered r r.source 0x82 [reason]] }

/-- The state with a group ACK of the groups queued for the source (R160). -/
def State.ackedWith (groups : List Nat) (s : State) : State :=
  { s with txq := s.txq ++ [answered r r.source 0x80 (byte groups.length :: groups.map byte)] }

/-- The group ACK carries the groups of the slot's record. -/
theorem State.groupAck_eq (hs : r.source ≠ 61) (hc : r.code ≠ 0x01) (slot : Nat) (rd : Record)
    (record : s.recordAt slot = some rd) : s.groupAck r slot = s.ackedWith r rd.groups := by
  simp only [State.groupAck, record, s.ack_eq r hs hc]
  rfl

/-- The slot's record and the group's member list replaced together, and the slot marked (R109). -/
def State.withMembership (slot g : Nat) (rd : Record) (members : List Nat) (s : State) : State :=
  { s with
    ros := { s.ros with
      table := s.ros.table.set slot (some rd)
      groups := s.ros.groups.modify g fun x => { x with members := members } }
    cn := s.cn.marked slot }

/-- A slot that joins a group comes last in the group's member list, and the group last in the record's groups. -/
theorem State.joinGroup_membership (slot g : Nat) (rd : Record) (record : s.recordAt slot = some rd) :
    s.joinGroup slot g = s.withMembership slot g { rd with groups := rd.groups ++ [g] }
      ((s.group g).members ++ [slot]) :=
  s.joinGroup_eq slot g rd record

/-- A slot that leaves a group is erased from its member list, and the group from the record's groups. -/
theorem State.leaveGroup_membership (slot g : Nat) (rd : Record) (record : s.recordAt slot = some rd) :
    s.leaveGroup slot g = s.withMembership slot g { rd with groups := rd.groups.erase g }
      ((s.group g).members.erase slot) :=
  s.leaveGroup_eq slot g rd record

/-- The group ACK after a change of membership carries the groups that the record then has. -/
theorem State.groupAck_membership (hs : r.source ≠ 61) (hc : r.code ≠ 0x01) (slot g : Nat) (rd : Record)
    (members : List Nat) (occupied : slot < s.ros.table.length) :
    (s.withMembership slot g rd members).groupAck r slot =
      (s.withMembership slot g rd members).ackedWith r rd.groups :=
  (s.withMembership slot g rd members).groupAck_eq r hs hc slot rd
    ((s.recordAt_putRecord slot slot rd occupied).trans (if_pos rfl))

/-- SUBSCRIBE's checks in order, then the slot joins the group (R115). -/
theorem State.serveSubscribe_eq (hs : r.source ≠ 61) (hc : r.code ≠ 0x01) (slot : Nat) (rd : Record)
    (holder : s.findAddr r.source = some (slot, rd)) :
    let g := natAt r.payload 0
    let members := (s.group g).members
    s.serveSubscribe r =
      if 15 < g then s.refusedWith r 9
      else if (s.group g).isOpen = false then s.refusedWith r 11
      else if slot ∈ members then s.ackedWith r rd.groups
      else if 4 ≤ rd.groups.length then s.refusedWith r 12
      else if 24 ≤ members.length then s.refusedWith r 10
      else (s.withMembership slot g { rd with groups := rd.groups ++ [g] } (members ++ [slot])).ackedWith r
        (rd.groups ++ [g]) := by
  obtain ⟨record, -⟩ := s.findAddr_some _ slot rd holder
  have occupied := s.recordAt_lt slot rd record
  simp only [State.serveSubscribe, holder, s.refuse_eq r hs hc, s.groupAck_eq r hs hc slot rd record,
    s.joinGroup_membership slot _ rd record, s.groupAck_membership r hs hc slot _ _ _ occupied]
  rfl

/-- UNSUBSCRIBE's checks in order, then the slot leaves the group (R116). -/
theorem State.serveUnsubscribe_eq (hs : r.source ≠ 61) (hc : r.code ≠ 0x01) (slot : Nat) (rd : Record)
    (holder : s.findAddr r.source = some (slot, rd)) :
    let g := natAt r.payload 0
    let members := (s.group g).members
    s.serveUnsubscribe r =
      if 15 < g then s.refusedWith r 9
      else if (s.group g).isOpen = false then s.refusedWith r 11
      else if slot ∉ members then s.ackedWith r rd.groups
      else (s.withMembership slot g { rd with groups := rd.groups.erase g } (members.erase slot)).ackedWith r
        (rd.groups.erase g) := by
  obtain ⟨record, -⟩ := s.findAddr_some _ slot rd holder
  have occupied := s.recordAt_lt slot rd record
  simp only [State.serveUnsubscribe, holder, s.refuse_eq r hs hc, s.groupAck_eq r hs hc slot rd record,
    s.leaveGroup_membership slot _ rd record, s.groupAck_membership r hs hc slot _ _ _ occupied]
  rfl

/-- Settles O26: each request by its own rule, on the rest of RXQ. -/
theorem subscribeAndUnsubscribe : Obligations.SubscribeAndUnsubscribe := by
  unfold Obligations.SubscribeAndUnsubscribe
  intro b r rest s slot rd holder
  constructor
  · intro h
    obtain ⟨served, hs, hc⟩ := s.takeRequest_servedBound r b 0x20 (fun r s => s.serveSubscribe r) rest (by decide) h
    exact congrArg Host.Outcome.next
      (served.trans (State.serveSubscribe_eq r { s with rxq := rest } hs hc slot rd holder))
  · intro h
    obtain ⟨served, hs, hc⟩ := s.takeRequest_servedBound r b 0x21 (fun r s => s.serveUnsubscribe r) rest (by decide) h
    exact congrArg Host.Outcome.next
      (served.trans (State.serveUnsubscribe_eq r { s with rxq := rest } hs hc slot rd holder))

/-! ### GROUP LIST (R117) -/

/-- The address a slot's record holds is that of the record, when there is one. -/
theorem State.addressOf_eq (slot : Nat) : s.addressOf slot = ((s.recordAt slot).bind Record.address).getD 0 := by
  unfold State.addressOf
  cases s.recordAt slot <;> rfl

/-- The members that a filter leaves out make up the member count with those it keeps. -/
theorem length_sub_filter (p : Nat → Bool) (members : List Nat) :
    members.length - (members.filter p).length = members.countP fun slot => !p slot := by
  have total := List.length_eq_countP_add_countP p (l := members)
  simp only [Bool.not_eq_true, Bool.decide_eq_false] at total
  rw [← List.countP_eq_length_filter]
  omega

/-- GROUP LIST answers NO_GROUP, or the open flag, the listed members' addresses and the count of the others. -/
theorem State.serveGroupList_eq (hs : r.source ≠ 61) (hc : r.code ≠ 0x01) :
    let g := natAt r.payload 0
    let members := (s.group g).members
    let listed := (members.filter fun slot => s.listed slot).map fun slot =>
      ((s.recordAt slot).bind Record.address).getD 0
    s.serveGroupList r =
      if 15 < g then { s with txq := s.txq ++ [answered r r.source 0x82 [9]] }
      else { s with
        txq := s.txq ++ [answered r r.source 0x80 (flagByte (s.group g).isOpen :: byte listed.length
          :: listed.map byte ++ [byte (members.countP fun slot => !s.listed slot)])] } := by
  simp only [State.serveGroupList, s.refuse_eq r hs hc, s.ack_eq r hs hc, s.addressOf_eq, length_sub_filter,
    List.length_map, List.map_map]
  rfl

/-- Settles O27: GROUP LIST by its rule, on the rest of RXQ. -/
theorem groupListAnswers : Obligations.GroupListAnswers := by
  unfold Obligations.GroupListAnswers
  intro b r rest s h
  obtain ⟨served, hs, hc⟩ := s.takeRequest_servedBound r b 0x12 (fun r s => s.serveGroupList r) rest (by decide) h
  exact congrArg Host.Outcome.next (served.trans (State.serveGroupList_eq r { s with rxq := rest } hs hc))

end Sys2Proof.Machine

/-! PROOF. The lookups (9.5): RESOLVE and IDENTIFY read the identity index and the address map, INFO the configuration
and two counts, and each only answers (R163 to R165). -/

namespace Sys2Proof.Machine

variable (r : Request) (s : State)

/-- The state with an ACK of the payload queued for the source (R160). -/
def State.acknowledgedWith (payload : List Byte) (s : State) : State :=
  { s with txq := s.txq ++ [answered r r.source 0x80 payload] }

/-! ### RESOLVE (R163) -/

/-- What RESOLVE tells of the record that has the UID: the address of a BOUND or LAPSED record, and of any other record
its state alone (R163). -/
def resolvedBytes (rd : Record) : List Byte :=
  if rd.state = .bound ∨ rd.state = .lapsed then [1, byte (stateNumber rd.state), byte (rd.address.getD 0)]
  else [0, byte (stateNumber rd.state), 0]

/-- An invalid UID is refused BAD_UID. -/
theorem State.serveResolve_invalid (hs : r.source ≠ 61) (hc : r.code ≠ 0x01) (invalid : validUid r.uid = false) :
    s.serveResolve r = s.refusedWith r 14 := by
  rw [State.serveResolve, if_pos invalid]
  exact s.refuse_eq r hs hc .badUid

/-- A valid UID without a record answers as VACANT. -/
theorem State.serveResolve_unknown (hs : r.source ≠ 61) (hc : r.code ≠ 0x01) (valid : validUid r.uid ≠ false)
    (unknown : s.findUid r.uid = none) :
    s.serveResolve r = s.acknowledgedWith r (uidBytes r.uid ++ [0, 0, 0]) := by
  rw [State.serveResolve, if_neg valid, unknown]
  exact s.ack_eq r hs hc _

/-- A valid UID with a record answers what the record's state lets be told. -/
theorem State.serveResolve_known (hs : r.source ≠ 61) (hc : r.code ≠ 0x01) (valid : validUid r.uid ≠ false)
    (slot : Nat) (rd : Record) (known : s.findUid r.uid = some (slot, rd)) :
    s.serveResolve r = s.acknowledgedWith r (uidBytes r.uid ++ resolvedBytes rd) := by
  rw [State.serveResolve, if_neg valid, known]
  refine (s.ack_eq r hs hc _).trans (congrArg (fun told => s.acknowledgedWith r (uidBytes r.uid ++ told)) ?_)
  unfold resolvedBytes
  cases rd.state <;> rfl

/-- RESOLVE on the rest of RXQ, by the UID's validity and its record's state. -/
theorem State.resolve_runs (b : Bool) (rest : List Request) (h : ServedBound b 0x10 r rest s) :
    let s' : State := { s with rxq := rest }
    Runs (.resolve b) s
      (if validUid r.uid = false then s'.refusedWith r 14
      else
        match s.findUid r.uid with
        | none => s'.acknowledgedWith r (uidBytes r.uid ++ [0, 0, 0])
        | some (_, rd) =>
          if rd.state = .bound ∨ rd.state = .lapsed then
            s'.acknowledgedWith r (uidBytes r.uid ++ [1, byte (stateNumber rd.state), byte (rd.address.getD 0)])
          else s'.acknowledgedWith r (uidBytes r.uid ++ [0, byte (stateNumber rd.state), 0])) := by
  intro s'
  obtain ⟨served, hs, hc⟩ := s.takeRequest_servedBound r b 0x10 (fun r s => s.serveResolve r) rest (by decide) h
  refine congrArg Host.Outcome.next (served.trans ?_)
  by_cases invalid : validUid r.uid = false
  · rw [if_pos invalid]
    exact s'.serveResolve_invalid r hs hc invalid
  · rw [if_neg invalid]
    cases found : s.findUid r.uid with
    | none => exact s'.serveResolve_unknown r hs hc invalid found
    | some entry =>
      obtain ⟨slot, rd⟩ := entry
      refine (s'.serveResolve_known r hs hc invalid slot rd found).trans ?_
      by_cases told : rd.state = .bound ∨ rd.state = .lapsed
      · simp only [resolvedBytes, if_pos told]
      · simp only [resolvedBytes, if_neg told]

/-! ### IDENTIFY (R164) -/

/-- An address byte of 0 or above 60 is never held, and answers found clear. -/
theorem State.serveIdentify_unassignable (hs : r.source ≠ 61) (hc : r.code ≠ 0x01)
    (outside : ¬ assignable (natAt r.payload 0) = true) : s.serveIdentify r = s.acknowledgedWith r [0] := by
  simp only [State.serveIdentify, if_neg outside]
  exact s.ack_eq r hs hc _

/-- An assignable address that no record holds answers found clear, in the free list or remembered alike. -/
theorem State.serveIdentify_free (hs : r.source ≠ 61) (hc : r.code ≠ 0x01)
    (inside : assignable (natAt r.payload 0) = true) (free : s.findAddr (natAt r.payload 0) = none) :
    s.serveIdentify r = s.acknowledgedWith r [0] := by
  simp only [State.serveIdentify, if_pos inside, free]
  exact s.ack_eq r hs hc _

/-- An assignable address that a record holds answers the record's contents. -/
theorem State.serveIdentify_held (hs : r.source ≠ 61) (hc : r.code ≠ 0x01)
    (inside : assignable (natAt r.payload 0) = true) (slot : Nat) (rd : Record)
    (held : s.findAddr (natAt r.payload 0) = some (slot, rd)) :
    s.serveIdentify r = s.acknowledgedWith r ([1, byte (stateNumber rd.state), byte (natAt r.payload 0)]
      ++ uidBytes rd.uid ++ [rd.cls] ++ groupListBytes rd.groups ++ labelBytes rd.label) := by
  simp only [State.serveIdentify, if_pos inside, held]
  exact s.ack_eq r hs hc _

/-- IDENTIFY on the rest of RXQ, by the range of the address and its holder. -/
theorem State.identify_runs (b : Bool) (rest : List Request) (h : ServedBound b 0x11 r rest s) :
    let s' : State := { s with rxq := rest }
    let a := natAt r.payload 0
    Runs (.identify b) s
      (if a < 1 ∨ 60 < a then s'.acknowledgedWith r [0]
      else
        match s.findAddr a with
        | none => s'.acknowledgedWith r [0]
        | some (_, rd) =>
          s'.acknowledgedWith r ([1, byte (stateNumber rd.state), byte a] ++ uidBytes rd.uid ++ [rd.cls]
            ++ groupListBytes rd.groups ++ labelBytes rd.label)) := by
  intro s' a
  obtain ⟨served, hs, hc⟩ := s.takeRequest_servedBound r b 0x11 (fun r s => s.serveIdentify r) rest (by decide) h
  refine congrArg Host.Outcome.next (served.trans ?_)
  have range : assignable a = true ↔ 1 ≤ a ∧ a ≤ 60 := assignable_iff a
  by_cases outside : a < 1 ∨ 60 < a
  · rw [if_pos outside]
    exact s'.serveIdentify_unassignable r hs hc (by rw [range]; omega)
  · rw [if_neg outside]
    have inside : assignable a = true := range.2 (by omega)
    cases found : s.findAddr a with
    | none => exact s'.serveIdentify_free r hs hc inside found
    | some entry => exact s'.serveIdentify_held r hs hc inside entry.1 entry.2 found

/-! ### INFO (R165) -/

/-- The BOUND count is the number of records in BOUND. -/
theorem State.boundCount_eq : s.boundCount = (occupied s.ros.table).countP fun rd => rd.state == .bound := by
  rw [State.boundCount, occupied, List.countP_filterMap]
  congr 1
  funext slot
  cases slot <;> rfl

/-- INFO on the rest of RXQ. -/
theorem State.info_runs (b : Bool) (rest : List Request) (h : ServedBound b 0x13 r rest s) :
    Runs (.info b) s
      (({ s with rxq := rest } : State).acknowledgedWith r
        (be16 s.ctl.epoch.toNat ++ [byte (policyNumber s.cfg.policy)] ++ be16 s.cfg.leaseTime
          ++ [byte ((occupied s.ros.table).countP fun rd => rd.state == .bound), byte s.ros.free.length,
            byte s.cfg.joinSlots])) := by
  obtain ⟨served, hs, hc⟩ := s.takeRequest_servedBound r b 0x13 (fun r s => s.serveInfo r) rest (by decide) h
  refine congrArg Host.Outcome.next (served.trans ?_)
  rw [← s.boundCount_eq]
  exact State.ack_eq r { s with rxq := rest } hs hc _

/-- Settles O25: each lookup by its own rule, on the rest of RXQ. -/
theorem lookupsAnswer : Obligations.LookupsAnswer := by
  unfold Obligations.LookupsAnswer
  intro b r rest s
  exact ⟨s.resolve_runs r b rest, s.identify_runs r b rest, s.info_runs r b rest⟩

end Sys2Proof.Machine

/-! PROOF. READ ENTRY, FIND UID and FIND ADDRESS (R176, R177) report what one slot, UID or address stands for. Under the
custody law (R21) an address stands in one place, so FIND ADDRESS's three searches find the place it stands in. -/

namespace Sys2Proof.Machine

variable (s : State)

/-- A command that only reports changes the result buffer alone, whatever code and payload it reports (R170, R174). -/
theorem State.serveCommand_report (code : Byte) (args : List Byte) (report : List Byte → State → Result)
    (c : ResultCode) (payload : List Byte) (h : Serving code args s) (hr : report args s = ⟨c, payload⟩) :
    s.serveCommand code (fun args s => (report args s, s)) = s.resulted c payload := by
  rw [s.serveCommand_serving code args _ h, hr]
  rfl

/-! ### READ ENTRY (R176) -/

/-- READ ENTRY refuses a slot above 63, then a VACANT one, and reports any other slot's record image. -/
theorem State.readEntry_runs (slot : Byte) (h : Serving 0x10 [slot] s) :
    Runs .readEntry s
      (if 63 < slot.toNat then s.resulted .badArgument []
      else
        match s.recordAt slot.toNat with
        | none => s.resulted .notFound []
        | some r => s.resulted .done (recordImage slot.toNat r)) := by
  have reports := fun c payload => s.serveCommand_report 0x10 [slot] (fun args s => s.readEntry args) c payload h
  refine congrArg Host.Outcome.next ?_
  by_cases beyond : 63 < slot.toNat
  · rw [if_pos beyond]
    exact reports _ _ (if_pos beyond)
  · rw [if_neg beyond]
    cases record : s.recordAt slot.toNat with
    | none => exact reports _ _ ((if_neg beyond).trans (by rw [natAt_singleton, record]; rfl))
    | some r => exact reports _ _ ((if_neg beyond).trans (by rw [natAt_singleton, record]; rfl))

/-! ### FIND UID (R177) -/

/-- FIND UID refuses an invalid UID, then one without a record, and reports the record image of any other. -/
theorem State.findUid_runs (args : List Byte) (h : Serving 0x11 args s) :
    let u := uidAt args 0
    Runs .findUid s
      (if u = 0 ∨ u = BitVec.allOnes 48 then s.resulted .badArgument []
      else
        match s.findUid u with
        | none => s.resulted .notFound []
        | some (slot, r) => s.resulted .done (recordImage slot r)) := by
  intro u
  have reports := fun c payload => s.serveCommand_report 0x11 args (fun args s => s.findUidResult args) c payload h
  refine congrArg Host.Outcome.next ?_
  by_cases invalid : u = 0 ∨ u = BitVec.allOnes 48
  · rw [if_pos invalid]
    exact reports _ _ (if_pos ((validUid_eq_false u).2 invalid))
  · rw [if_neg invalid]
    have valid := mt (validUid_eq_false u).1 invalid
    cases found : s.findUid u with
    | none => exact reports _ _ ((if_neg valid).trans (by rw [found]; rfl))
    | some entry => exact reports _ _ ((if_neg valid).trans (by rw [found]; rfl))

/-! ### One place for each address (R21) -/

/-- Under the custody law no address stands twice in the free list, the hold-down set and the records together. -/
theorem State.CustodyLaw.nodup {s : State} (law : s.CustodyLaw) :
    (s.ros.free ++ s.ros.hold.map HoldItem.address ++ heldAddresses s.ros.table).Nodup :=
  law.2.nodup_iff.2 List.nodup_range'

/-- The held addresses are those of the table's slots, in slot order. -/
theorem heldAddresses_eq (t : List (Option Record)) :
    heldAddresses t = t.filterMap fun o => o.bind Record.address := by
  rw [heldAddresses, occupied, List.filterMap_filterMap]
  rfl

/-- The address of a slot's record is one of the held addresses. -/
theorem State.mem_heldAddresses (slot a : Nat) (r : Record) (record : s.recordAt slot = some r)
    (holds : r.address = some a) : a ∈ heldAddresses s.ros.table := by
  have inTable := s.recordAt_lt slot r record
  have stands : s.ros.table[slot] = some r := by
    simpa [State.recordAt, List.getElem?_eq_getElem inTable] using record
  rw [heldAddresses_eq, List.mem_filterMap]
  exact ⟨some r, stands ▸ List.getElem_mem inTable, holds⟩

/-- An address that no record holds is not found. -/
theorem State.findAddr_none_of_notMem (a : Nat) (notHeld : a ∉ heldAddresses s.ros.table) : s.findAddr a = none := by
  cases found : s.findAddr a with
  | none => rfl
  | some entry =>
    obtain ⟨record, holds⟩ := s.findAddr_some a entry.1 entry.2 found
    exact absurd (s.mem_heldAddresses _ a _ record holds) notHeld

/-- When no address is held twice, the slots of two records that hold the same one are one slot. -/
theorem State.holder_unique (once : (heldAddresses s.ros.table).Nodup) (a i j : Nat) (x y : Record)
    (recordI : s.recordAt i = some x) (recordJ : s.recordAt j = some y) (holdsI : x.address = some a)
    (holdsJ : y.address = some a) : i = j := by
  rw [heldAddresses_eq, List.Nodup, List.pairwise_filterMap, List.pairwise_iff_getElem] at once
  have apart : ∀ {m n : Nat} {u v : Record}, s.recordAt m = some u → s.recordAt n = some v →
      u.address = some a → v.address = some a → ¬ m < n := by
    intro m n u v recordM recordN holdsM holdsN below
    have inM := s.recordAt_lt m u recordM
    have inN := s.recordAt_lt n v recordN
    simp only [State.recordAt, List.getElem?_eq_getElem inM, Option.join_some] at recordM
    simp only [State.recordAt, List.getElem?_eq_getElem inN, Option.join_some] at recordN
    exact once m n inM inN below a (by rw [recordM]; exact holdsM) a (by rw [recordN]; exact holdsN) rfl
  have := apart recordI recordJ holdsI holdsJ
  have := apart recordJ recordI holdsJ holdsI
  omega

/-- When no address is held twice, the address map finds the record that holds the address (R20). -/
theorem State.findAddr_of_holder (once : (heldAddresses s.ros.table).Nodup) (slot a : Nat) (r : Record)
    (record : s.recordAt slot = some r) (holds : r.address = some a) : s.findAddr a = some (slot, r) := by
  cases found : s.findAddr a with
  | none => simpa [holds] using s.findRecord_none _ found slot r record
  | some entry =>
    obtain ⟨slot', r'⟩ := entry
    obtain ⟨record', holds'⟩ := s.findAddr_some a slot' r' found
    obtain rfl := s.holder_unique once a slot' slot r' r record' record holds' holds
    rw [record] at record'
    cases record'
    rfl

/-- Where no two elements have the same key, the search for an element's key finds its position. -/
theorem findIdx?_key {α : Type} (key : α → Nat) (l : List α) (once : (l.map key).Nodup) (i : Nat) (x : α)
    (stands : l[i]? = some x) : l.findIdx? (fun y => key y == key x) = some i := by
  obtain ⟨inside, rfl⟩ := List.getElem?_eq_some_iff.1 stands
  refine List.findIdx?_eq_some_iff_getElem.2 ⟨inside, by simp, fun j before => ?_⟩
  have apart := List.pairwise_iff_getElem.1 once j i (by simp; omega) (by simpa using inside) before
  simpa using apart

/-! ### FIND ADDRESS (R177) -/

/-- FIND ADDRESS runs to what its result says. -/
theorem State.findAddress_runs (a : Byte) (h : Serving 0x12 [a] s) (c : ResultCode) (payload : List Byte)
    (hr : s.findAddressResult [a] = ⟨c, payload⟩) : Runs .findAddress s (s.resulted c payload) :=
  congrArg Host.Outcome.next (s.serveCommand_report 0x12 [a] (fun args s => s.findAddressResult args) c payload h hr)

/-- An address out of 1..60 is refused. -/
theorem State.findAddressResult_outside (a : Byte) (outside : a.toNat < 1 ∨ 60 < a.toNat) :
    s.findAddressResult [a] = result .badArgument := by
  refine if_pos (Bool.eq_false_iff.2 fun within => ?_)
  have range : 1 ≤ a.toNat ∧ a.toNat ≤ 60 := (assignable_iff _).1 within
  omega

section Assignable

variable (a : Byte) (assigned : assignable a.toNat = true)
include assigned

/-- A held address gives the holder's slot and record image. -/
theorem State.findAddressResult_held (slot : Nat) (r : Record) (held : s.findAddr a.toNat = some (slot, r)) :
    s.findAddressResult [a] = done (0 :: recordImage slot r) := by
  simp [State.findAddressResult, assigned, held]

/-- A free address gives its position in the free list. -/
theorem State.findAddressResult_free (i : Nat) (notHeld : s.findAddr a.toNat = none)
    (free : s.ros.free.findIdx? (fun x => x == a.toNat) = some i) :
    s.findAddressResult [a] = done [1, byte i] := by
  simp [State.findAddressResult, assigned, notHeld, free]

/-- An address in hold-down gives its item's position, UID and remaining time. -/
theorem State.findAddressResult_remembered (i : Nat) (item : HoldItem) (notHeld : s.findAddr a.toNat = none)
    (notFree : s.ros.free.findIdx? (fun x => x == a.toNat) = none)
    (remembered : s.ros.hold.findIdx? (fun x => x.address == a.toNat) = some i) (stands : s.ros.hold[i]? = some item) :
    s.findAddressResult [a] = done ([2, byte i] ++ uidBytes item.uid ++ be16 item.remaining) := by
  simp [State.findAddressResult, assigned, notHeld, notFree, remembered, stands]

/-- Under the custody law FIND ADDRESS reports each of the three places an address can stand in. -/
theorem State.findAddressResult_place (law : s.CustodyLaw) :
    (∀ slot r, s.recordAt slot = some r → r.address = some a.toNat →
      s.findAddressResult [a] = done (0 :: recordImage slot r)) ∧
    (∀ i, s.ros.free[i]? = some a.toNat → s.findAddressResult [a] = done [1, byte i]) ∧
    ∀ i item, s.ros.hold[i]? = some item → item.address = a.toNat →
      s.findAddressResult [a] = done ([2, byte i] ++ uidBytes item.uid ++ be16 item.remaining) := by
  obtain ⟨unheldOnce, heldOnce, unheldOrHeld⟩ := List.nodup_append.1 law.nodup
  obtain ⟨freeOnce, rememberedOnce, freeOrRemembered⟩ := List.nodup_append.1 unheldOnce
  have notHeld : a.toNat ∈ s.ros.free ++ s.ros.hold.map HoldItem.address → s.findAddr a.toNat = none :=
    fun unheld => s.findAddr_none_of_notMem _ fun held => unheldOrHeld _ unheld _ held rfl
  refine ⟨fun slot r record holds => ?_, fun i free => ?_, fun i item stands address => ?_⟩
  · exact s.findAddressResult_held a assigned slot r (s.findAddr_of_holder heldOnce slot _ r record holds)
  · have unheld := List.mem_append_left (s.ros.hold.map HoldItem.address) (List.mem_of_getElem? free)
    exact s.findAddressResult_free a assigned i (notHeld unheld)
      (findIdx?_key id s.ros.free (by rwa [List.map_id]) i _ free)
  · have remembered : a.toNat ∈ s.ros.hold.map HoldItem.address :=
      address ▸ List.mem_map_of_mem (List.mem_of_getElem? stands)
    have notFree : s.ros.free.findIdx? (fun x => x == a.toNat) = none :=
      List.findIdx?_eq_none_iff.2 fun x free => beq_eq_false_iff_ne.2 (freeOrRemembered x free _ remembered)
    exact s.findAddressResult_remembered a assigned i item (notHeld (List.mem_append_right _ remembered)) notFree
      (address ▸ findIdx?_key HoldItem.address s.ros.hold rememberedOnce i item stands) stands

end Assignable

/-- Settles O49: the three commands' reports, with the record image of R208 written out. -/
theorem readingOneRecord : Obligations.ReadingOneRecord := by
  unfold Obligations.ReadingOneRecord
  intro s image
  refine ⟨s.readEntry_runs, s.findUid_runs, fun a h => ⟨fun outside => ?_, fun atLeast atMost law => ?_⟩⟩
  · exact s.findAddress_runs a h _ _ (s.findAddressResult_outside a outside)
  · obtain ⟨held, free, remembered⟩ := s.findAddressResult_place a ((assignable_iff _).2 ⟨atLeast, atMost⟩) law
    exact ⟨fun slot r record holds => s.findAddress_runs a h _ _ (held slot r record holds),
      fun i stands => s.findAddress_runs a h _ _ (free i stands),
      fun i item stands address => s.findAddress_runs a h _ _ (remembered i item stands address)⟩

end Sys2Proof.Machine

/-! PROOF. READ CONFIG, READ POOL and READ COUNTERS (R185, R186, R194) report what stands, and CLEAR COUNTERS (R194)
changes the counters alone. -/

namespace Sys2Proof.Machine

variable (s : State)

/-- READ CONFIG reports the thirteen parameters, two bytes each, in the order of their numbers. -/
theorem State.readConfig_runs (h : Serving 0x51 [] s) :
    Runs .readConfig s (s.resulted .done (s.cfg.values.flatMap be16)) :=
  congrArg Host.Outcome.next (s.serveCommand_report 0x51 [] (fun _ s => s.readConfigResult) _ _ h rfl)

/-- READ COUNTERS reports the eight counters, two bytes each, in the order of their numbers. -/
theorem State.readCounters_runs (h : Serving 0x53 [] s) :
    Runs .readCounters s (s.resulted .done (s.cn.counters.values.flatMap be16)) :=
  congrArg Host.Outcome.next (s.serveCommand_report 0x53 [] (fun _ s => s.readCountersResult) _ _ h rfl)

/-- READ POOL reports the free list's length and head and the hold-down count, or the eight oldest hold-down items, and
refuses any other part. -/
theorem State.readPool_runs (part : Byte) (h : Serving 0x52 [part] s) :
    Runs .readPool s
      (if part = 0 then
        s.resulted .done [byte s.ros.free.length, byte (s.ros.free.headD 0), byte s.ros.hold.length]
      else if part = 1 then s.resulted .done ((s.ros.hold.take 8).flatMap poolItemBytes)
      else s.resulted .badArgument []) := by
  have reports := fun c payload => s.serveCommand_report 0x52 [part] (fun args s => s.readPoolResult args) c payload h
  have isPart (n : Byte) : natAt [part] 0 = n.toNat ↔ part = n := by rw [natAt_singleton, BitVec.toNat_inj]
  refine congrArg Host.Outcome.next ?_
  by_cases summary : part = 0
  · rw [if_pos summary]
    exact reports _ _ (if_pos ((isPart 0).2 summary))
  · rw [if_neg summary]
    have notSummary := mt (isPart 0).1 summary
    by_cases items : part = 1
    · rw [if_pos items]
      exact reports _ _ ((if_neg notSummary).trans (if_pos ((isPart 1).2 items)))
    · rw [if_neg items]
      exact reports _ _ ((if_neg notSummary).trans (if_neg (mt (isPart 1).1 items)))

/-- CLEAR COUNTERS sets the counters to 0 and reports DONE. -/
theorem State.clearCounters_runs (h : Serving 0x54 [] s) :
    Runs .clearCounters s { s.resulted .done [] with cn := { s.cn with counters := Counters.zero } } :=
  congrArg Host.Outcome.next (s.serveCommand_serving 0x54 [] (fun _ s => s.clearCounters) h)

/-- Settles O51: the three reports with their layouts written out, and the eight counters of the reset written out. -/
theorem configPoolAndCounterReportsAndClear : Obligations.ConfigPoolAndCounterReportsAndClear := by
  unfold Obligations.ConfigPoolAndCounterReportsAndClear
  intro s
  exact ⟨s.readConfig_runs, s.readPool_runs, s.readCounters_runs, s.clearCounters_runs⟩

end Sys2Proof.Machine

/-! PROOF. What a command can do to the roster: one change of a slot, of the approval queue, of the hold-down set or of a
group, then slots joining and leaving groups. Each such change is a constructor, so that a law of the roster is proved by
cases on them. -/

namespace Sys2Proof.Machine

/-! ### Custody as a record gains, keeps or loses an address (1.6, 1.7) -/

/-- Address `a` taken for a UID out of the free list, or out of a hold-down item that remembers the UID (R25, R26). -/
def Takes (a : Nat) (u : Uid) (c c' : Custody) : Prop :=
  (a ∈ c.1 ∧ c' = (c.1.erase a, c.2)) ∨
  ∃ before i after, c.2 = before ++ i :: after ∧ i.address = a ∧ i.uid = u ∧ c' = (c.1, before ++ after)

/-- Custody after the address of a record, when it holds one, is given up for a UID (R23). -/
def givenUp (holdTime : Nat) (u : Uid) (address : Option Nat) (c : Custody) : Custody :=
  match address with
  | some a =>
    if holdTime = 0 then (c.1 ++ [a], c.2) else (c.1, c.2 ++ [{ address := a, uid := u, remaining := holdTime }])
  | none => c

/-- Custody as a slot's address goes from `old` to `new`: the address stays, one is taken, or the old one is given up. -/
inductive Moves (holdTime : Nat) (u : Uid) (c : Custody) : Option Nat → Option Nat → Custody → Prop
  | keep (a : Option Nat) : Moves holdTime u c a a c
  | take (a : Nat) (c' : Custody) (takes : Takes a u c c') : Moves holdTime u c none (some a) c'
  | give (a : Option Nat) : Moves holdTime u c a none (givenUp holdTime u a c)

/-- The first element that passes a test stands between those before it, which fail the test, and those after it. -/
theorem eraseP_split {α : Type} (p : α → Bool) (l : List α) (h : ∃ x ∈ l, p x = true) :
    ∃ before x after, l = before ++ x :: after ∧ p x = true ∧ l.eraseP p = before ++ after ∧ l.find? p = some x := by
  obtain ⟨y, mem, passes⟩ := h
  obtain ⟨x, before, after, fail, hx, split, erased⟩ := List.exists_of_eraseP mem passes
  refine ⟨before, x, after, split, hx, erased, ?_⟩
  rw [split, List.find?_append, List.find?_eq_none.2 fail]
  simp [hx]

/-- A claim that succeeds takes the address (R25). -/
theorem claim_takes (a : Nat) (u : Uid) (c c' : Custody) (h : claim a u c = some c') : Takes a u c c' := by
  rcases claim_some a u c c' h with ⟨free, rfl⟩ | ⟨-, ⟨i, mem, address, uid⟩, rfl⟩
  · exact .inl ⟨free, rfl⟩
  · obtain ⟨before, x, after, split, passes, erased, -⟩ :=
      eraseP_split (fun i => i.address == a && i.uid == u) c.2 ⟨i, mem, by simp [address, uid]⟩
    simp only [Bool.and_eq_true, beq_iff_eq] at passes
    exact .inr ⟨before, x, after, split, passes.1, passes.2, by rw [erased]⟩

/-- An assignment that succeeds without a reserved address takes the address it gives (R26). -/
theorem assign_takes (u : Uid) (p a : Nat) (c c' : Custody) (h : assign none u p c = some (a, c')) : Takes a u c c' := by
  rcases assign_some none u p a c c' h with
    ⟨none, -⟩ | ⟨-, ⟨i, found, address⟩, rfl⟩ | ⟨-, -, rfl, -, -, free, rfl⟩ | ⟨-, -, rest, free, rfl⟩
  · cases none
  · have passes := List.find?_some found
    obtain ⟨before, x, after, split, uid, erased, first⟩ :=
      eraseP_split (fun i => i.uid == u) c.2 ⟨i, List.mem_of_find?_eq_some found, passes⟩
    obtain rfl : x = i := Option.some.inj (first.symm.trans found)
    exact .inr ⟨before, x, after, split, address, by simpa using uid, by rw [erased]⟩
  · exact .inl ⟨free, rfl⟩
  · exact .inl ⟨by simp [free], by simp [free]⟩

/-! ### One record in another's place -/

/-- `r'` continues the record `r` of a slot: R5 and R6 fix UID and origin, R12 and R13 the counts, R4 the shape. -/
structure Record.Continues (r r' : Record) : Prop where
  uid : r'.uid = r.uid
  origin : r'.origin = r.origin
  shape : r.Shape → r'.Shape
  binds : r'.binds = r.binds ∨ r'.binds = saturate 255 r.binds
  conflicts : r'.conflicts = r.conflicts ∨ r'.conflicts = saturate 15 r.conflicts
  label : r.label.length ≤ 12 → r'.label.length ≤ 12

/-- The timer of `r'`, where both records run one, reads no less than that of `r`. -/
def Record.NoSooner (r r' : Record) : Prop := ∀ n n', r.remaining = some n → r'.remaining = some n' → n ≤ n'

/-- A new record as R16 makes it: valid UID, no groups, the shape of its state. -/
structure Record.Fresh (r : Record) : Prop where
  uid : validUid r.uid = true
  groups : r.groups = []
  shape : r.Shape
  state : r.state ≠ .evicting
  label : r.label.length ≤ 12

variable (s : State)

/-- A slot's content, custody, the approval queue and the groups replaced together. -/
def State.withSlot (slot : Nat) (new : Option Record) (c : Custody) (apq : List ApqItem) (groups : List Group) : State :=
  { s with
    ros := { table := s.ros.table.set slot new, free := c.1, hold := c.2, apq := apq, groups := groups } }

/-- A slot taken out of every member list. -/
def leftAll (slot : Nat) (groups : List Group) : List Group :=
  groups.map fun x => { x with members := x.members.erase slot }

/-- One change that a request, a command or an expiry makes to the roster, its change bits with it. `moved` names the slot
whose record may come into or go out of EVICTING. -/
inductive State.Edit (moved : Option Nat) : State → Prop
  /-- Nothing of the roster changes. -/
  | same : Edit moved s
  /-- A record changes without a change bit: nothing that the change set reports is changed (R188). -/
  | refresh (slot : Nat) (r r' : Record) (record : s.recordAt slot = some r) (continues : r.Continues r')
      (visible : r'.visible = r.visible) (running : s.ctl.mode = .running) :
      Edit moved (s.withSlot slot (some r') s.custody s.ros.apq s.ros.groups)
  /-- A record changes with its change bit set, its groups kept; its address stays, is taken or is given up. -/
  | rewrite (slot : Nat) (r r' : Record) (c : Custody) (record : s.recordAt slot = some r) (continues : r.Continues r')
      (groups : r'.groups = r.groups) (barred : r'.state = .barred ↔ r.state = .barred)
      (address : r.Shape → Moves s.cfg.holdTime r.uid s.custody r.address r'.address c)
      (timer : s.ctl.mode = .held → r.Shape → r.NoSooner r')
      (calm : moved = some slot ∨ (r'.state = .evicting ↔ r.state = .evicting)) :
      Edit moved ((s.withSlot slot (some r') c s.ros.apq s.ros.groups).setCn (s.cn.marked slot))
  /-- A RESERVED record is barred: it leaves every group and gives its address up (R105). -/
  | bar (slot : Nat) (r r' : Record) (record : s.recordAt slot = some r) (continues : r.Continues r')
      (reserved : r.state = .reserved) (barred : r'.state = .barred) (groups : r'.groups = [])
      (address : r'.address = none) (timer : r'.remaining = r.remaining) :
      Edit moved ((s.withSlot slot (some r') (givenUp s.cfg.holdTime r.uid r.address s.custody) s.ros.apq
        (leftAll slot s.ros.groups)).setCn (s.cn.marked slot))
  /-- A record is created in a VACANT slot; the APQ item of its UID goes (R16, R19). -/
  | create (slot : Nat) (r : Record) (c : Custody) (inTable : slot < s.ros.table.length)
      (vacant : s.recordAt slot = none) (fresh : r.Fresh)
      (unknown : s.findUid r.uid = none ∨ ∃ i ∈ s.ros.apq, i.uid = r.uid)
      (address : Moves s.cfg.holdTime r.uid s.custody none r.address c) :
      Edit moved ((s.withSlot slot (some r) c (s.ros.apq.eraseP fun i => i.uid == r.uid) s.ros.groups).setCn
        (s.cn.marked slot))
  /-- A record is removed and its address given up (R3). -/
  | vacate (slot : Nat) (r : Record) (record : s.recordAt slot = some r)
      (calm : moved = some slot ∨ r.state ≠ .evicting) :
      Edit moved ((s.withSlot slot none (givenUp s.cfg.holdTime r.uid r.address s.custody) s.ros.apq
        (leftAll slot s.ros.groups)).setCn (s.cn.marked slot))
  /-- APQ items leave the queue. -/
  | unqueue (q : List ApqItem) (fewer : q.Sublist s.ros.apq) : Edit moved (s.setApq q)
  /-- APQ items are refreshed, each keeping its UID (R77). -/
  | requeue (q : List ApqItem) (uids : q.map ApqItem.uid = s.ros.apq.map ApqItem.uid) (running : s.ctl.mode = .running) :
      Edit moved (s.setApq q)
  /-- An item joins the APQ for a UID that has neither a record nor an item (R76). -/
  | queue (i : ApqItem) (valid : validUid i.uid = true) (unknown : s.findUid i.uid = none)
      (unqueued : ∀ j ∈ s.ros.apq, j.uid ≠ i.uid) (room : s.ros.apq.length < 8) (running : s.ctl.mode = .running) :
      Edit moved (s.setApq (s.ros.apq ++ [i]))
  /-- A hold-down item leaves the set and its address goes to the free list's tail (R67). -/
  | unhold (before after : List HoldItem) (i : HoldItem) (split : s.ros.hold = before ++ i :: after) :
      Edit moved ((s.setHold (before ++ after)).setFree (s.ros.free ++ [i.address]))
  /-- A group's open flag is set (R113). -/
  | opens (g : Nat) (flag : Bool) :
      Edit moved (s.setGroups (s.ros.groups.modify g fun x => { x with isOpen := flag }))

/-- A slot joins or leaves one group (R109). -/
inductive State.Regroup : State → Prop
  | join (slot g : Nat) (r : Record) (record : s.recordAt slot = some r) (notBarred : r.state ≠ .barred) (known : g < 16)
      (outside : slot ∉ (s.group g).members ∨ g ∉ r.groups) (few : r.groups.length < 4)
      (room : (s.group g).members.length < 24) : Regroup (s.joinGroup slot g)
  | leave (slot g : Nat) (member : slot ∈ (s.group g).members) : Regroup (s.leaveGroup slot g)

/-- Slots join and leave groups one after the other. -/
inductive State.Regroups : State → State → Prop
  | nil (s : State) : Regroups s s
  | cons (s u v : State) (first : s.Regroup u) (rest : Regroups u v) : Regroups s v

/-- What a request, a command or an expiry does to the roster: one edit, then slots join and leave groups. -/
def State.Edited (moved : Option Nat) (s t : State) : Prop := ∃ u, s.Edit moved u ∧ u.Regroups t

variable {s}

theorem State.Edit.edited {moved : Option Nat} {u : State} (edit : s.Edit moved u) : s.Edited moved u :=
  ⟨u, edit, .nil u⟩

theorem State.Regroup.edited {moved : Option Nat} {u : State} (regroup : s.Regroup u) : s.Edited moved u :=
  ⟨s, .same, .cons s u u regroup (.nil u)⟩

end Sys2Proof.Machine

/-! PROOF. What a station request does: at most one edit of the roster with slots joining or leaving one group, and exactly
one ANSWER entry (chapters 2, 4, 5, 6, 9). -/

namespace Sys2Proof.Machine

/-- The notices, the latch and the counters move on: no change bit moves, and no counter passes 65 535 (R193). -/
def Cn.Follows (c c' : Cn) : Prop :=
  c'.changes = c.changes ∧ ((∀ n ∈ c.counters.values, n ≤ 65535) → ∀ n ∈ c'.counters.values, n ≤ 65535)

theorem Cn.Follows.refl (c : Cn) : c.Follows c := ⟨rfl, id⟩

theorem Cn.follows_setNotice (c : Cn) (n : Notice) : c.Follows (c.setNotice n) := ⟨rfl, id⟩

theorem Cn.Follows.trans {a b c : Cn} (first : a.Follows b) (second : b.Follows c) : a.Follows c :=
  ⟨second.1.trans first.1, second.2 ∘ first.2⟩

theorem bump_le (n : Nat) : bump n ≤ 65535 := Nat.min_le_right _ _

/-- A counter that is moved on stops at 65 535 (R193). -/
theorem Cn.follows_bump (c : Cn) (counters : Counters)
    (moved : ∀ n ∈ counters.values, n ∈ c.counters.values ∨ n ≤ 65535) : c.Follows { c with counters := counters } :=
  ⟨rfl, fun bounded n mem => (moved n mem).elim (bounded n) id⟩

theorem Cn.follows_late (c : Cn) :
    c.Follows { c with counters := { c.counters with late := bump c.counters.late } } :=
  c.follows_bump _ (by simp [Counters.values, bump_le])

theorem Cn.follows_malformed (c : Cn) :
    c.Follows { c with counters := { c.counters with malformed := bump c.counters.malformed } } :=
  c.follows_bump _ (by simp [Counters.values, bump_le])

theorem Cn.follows_conflicts (c : Cn) :
    c.Follows { c with counters := { c.counters with conflicts := bump c.counters.conflicts } } :=
  c.follows_bump _ (by simp [Counters.values, bump_le])

variable (r : Request) (s : State)

/-- A request served: the roster edited, the notices, latch and counters moved on, and one answer queued (R159). -/
def State.Serves (s t : State) : Prop :=
  ∃ (v : State) (cn : Cn) (code : Byte) (payload : List Byte), s.Edited none v ∧ v.cn.Follows cn ∧
    (s.CapacityLaw → payload.length ≤ 48) ∧ t = (v.setCn cn).enqueue (answerEntry r code payload)

variable {s} {v : State}

theorem leadUid_length : (leadUid r).length ≤ 6 := by
  unfold leadUid
  split
  · exact Nat.le_refl 6
  · exact Nat.zero_le 6

theorem State.Edited.serves_ack (edited : s.Edited none v) (contents : List Byte)
    (short : s.CapacityLaw → contents.length ≤ 42) : s.Serves r (v.ack r contents) := by
  refine ⟨v, v.cn, _, _, edited, .refl _, fun law => ?_, rfl⟩
  have := short law
  have := leadUid_length r
  rw [List.length_append]
  omega

theorem State.Edited.serves_refuse (edited : s.Edited none v) (x : Reason) : s.Serves r (v.refuse r x) := by
  refine ⟨v, v.cn, _, _, edited, .refl _, fun _ => ?_, rfl⟩
  have := leadUid_length r
  simp only [List.length_append, List.length_cons, List.length_nil]
  omega

theorem State.Edited.serves_wait (edited : s.Edited none v) (reason : Nat) : s.Serves r (v.wait r reason) := by
  refine ⟨v, v.cn, _, _, edited, .refl _, fun _ => ?_, rfl⟩
  have := leadUid_length r
  simp only [List.length_append, List.length_cons, List.length_nil]
  omega

theorem State.Edited.serves_offer (edited : s.Edited none v) (rd : Record) : s.Serves r (v.offer r rd) :=
  ⟨v, v.cn, 0x83, v.offerPayload rd, edited, .refl _, fun _ => (by decide : 12 ≤ 48), rfl⟩

/-- A notice set on the way to a REFUSE moves nothing else. -/
theorem State.Edited.serves_noticed (edited : s.Edited none v) (n : Notice) (x : Reason) :
    s.Serves r ((v.setNotice n).refuse r x) := by
  refine ⟨v, v.cn.setNotice n, _, _, edited, v.cn.follows_setNotice n, fun _ => ?_, rfl⟩
  have := leadUid_length r
  simp only [List.length_append, List.length_cons, List.length_nil]
  omega

theorem State.Edited.serves_waitNoticed (edited : s.Edited none v) (n : Notice) (reason : Nat) :
    s.Serves r ((v.setNotice n).wait r reason) := by
  refine ⟨v, v.cn.setNotice n, _, _, edited, v.cn.follows_setNotice n, fun _ => ?_, rfl⟩
  have := leadUid_length r
  simp only [List.length_append, List.length_cons, List.length_nil]
  omega

/-- A record in the table is one of its occupied records. -/
theorem State.mem_occupied {slot : Nat} {rd : Record} (record : s.recordAt slot = some rd) :
    rd ∈ occupied s.ros.table := by
  have inTable := s.recordAt_lt slot rd record
  simp only [State.recordAt, List.getElem?_eq_getElem inTable, Option.join_some] at record
  rw [occupied, List.mem_filterMap]
  exact ⟨_, List.getElem_mem inTable, record⟩

/-- The occupied records are those of the slots. -/
theorem State.mem_occupied_iff {rd : Record} : rd ∈ occupied s.ros.table ↔ ∃ slot, s.recordAt slot = some rd := by
  refine ⟨fun mem => ?_, fun ⟨_, record⟩ => State.mem_occupied record⟩
  obtain ⟨o, stands, rfl⟩ := List.mem_filterMap.1 mem
  obtain ⟨slot, inTable, here⟩ := List.getElem_of_mem stands
  exact ⟨slot, by simp [State.recordAt, List.getElem?_eq_getElem inTable, here]⟩

/-- Under the capacity law a record's groups and label are short (00 section 5). -/
theorem State.CapacityLaw.record (law : s.CapacityLaw) {slot : Nat} {rd : Record} (record : s.recordAt slot = some rd) :
    rd.groups.length ≤ 4 ∧ rd.label.length ≤ 12 := by
  obtain ⟨-, -, -, -, -, -, records, -⟩ := law
  exact records rd (State.mem_occupied record)

/-- Under the capacity law no member list passes 24; a number above 15 names an empty one. -/
theorem State.CapacityLaw.members (law : s.CapacityLaw) (g : Nat) : (s.group g).members.length ≤ 24 := by
  obtain ⟨-, groups, -, -, -, lists, -⟩ := law
  by_cases known : g < 16
  · exact lists g known
  · simp [State.group, List.getElem?_eq_none (show s.ros.groups.length ≤ g by omega)]

theorem State.Edited.serves_bindingAck (edited : s.Edited none v) {slot : Nat} {rd rd' : Record}
    (record : s.recordAt slot = some rd) (groups : rd'.groups = rd.groups) : s.Serves r (v.bindingAck r rd') := by
  refine edited.serves_ack r _ fun law => ?_
  have few := (law.record record).1
  simp only [groupListBytes, groups, List.length_append, List.length_cons, List.length_map, be16, State.epochBytes,
    List.length_nil]
  omega

/-! ### Records of each state (R4) -/

variable {rd : Record}

/-- An offer timer and an address make an OFFERED record of any record whose origin and flags fit. -/
theorem Record.Continues.offered {a n : Nat} (cls : Byte) :
    rd.Continues { rd with state := .offered, address := some a, remaining := some n, cls := cls } :=
  ⟨rfl, rfl, fun shape => ⟨shape.1, rfl, rfl⟩, .inl rfl, .inl rfl, id⟩

/-- A record of the shape of OFFERED, BOUND or LAPSED holds an address. -/
theorem Record.Shape.holds (shape : rd.Shape) (active : rd.state.active = true) : ∃ a, rd.address = some a := by
  obtain ⟨-, fields⟩ := shape
  refine Option.isSome_iff_exists.1 ?_
  cases state : rd.state <;> simp only [state] at fields active
  case reserved => cases active
  case barred => cases active
  all_goals exact fields.1

/-- A record that holds an address moves to OFFERED, keeping it. -/
theorem Record.Continues.offeredAgain {n : Nat} (cls : Byte) (active : rd.state.active = true) :
    rd.Continues { rd with state := .offered, remaining := some n, cls := cls } :=
  ⟨rfl, rfl, fun shape => ⟨shape.1, by
    obtain ⟨a, holds⟩ := shape.holds active
    simp [holds]⟩, .inl rfl, .inl rfl, id⟩

/-- The shape of a record does not depend on its class. -/
theorem Record.Continues.classed (cls : Byte) : rd.Continues { rd with cls := cls } :=
  ⟨rfl, rfl, id, .inl rfl, .inl rfl, id⟩

/-- The shape of a record does not depend on its conflict count. -/
theorem Record.Continues.conflicted : rd.Continues { rd with conflicts := saturate 15 rd.conflicts } :=
  ⟨rfl, rfl, id, .inl rfl, .inr rfl, id⟩

/-- The lease timer runs unless the record is pinned (R63). -/
theorem State.leaseTimer_isSome (s : State) (r : Record) : (s.leaseTimer r).isSome = !r.pinned := by
  unfold State.leaseTimer
  cases r.pinned <;> rfl

/-- A record bound at an address it holds or takes, its lease timer started, its bind count kept or moved on. -/
theorem Record.Continues.boundAt {a binds : Nat} (counted : binds = rd.binds ∨ binds = saturate 255 rd.binds) :
    rd.Continues { rd with state := .bound, address := some a, remaining := s.leaseTimer rd, binds := binds } :=
  ⟨rfl, rfl, fun shape => ⟨shape.1, rfl, s.leaseTimer_isSome rd⟩, counted, .inl rfl, id⟩

/-- A new OFFERED or BOUND record of LINE origin, at an address and with its timer, has no groups and no label. -/
theorem newRecord_line_fresh {state : RecState} {u : Uid} {a n : Nat} {cls : Byte} {binds : Nat}
    (valid : validUid u = true) (known : state = .offered ∨ state = .bound) :
    (newRecord state .line u (some a) (some n) cls binds).Fresh := by
  refine ⟨valid, rfl, ?_, ?_, Nat.zero_le 12⟩
  · rcases known with rfl | rfl <;> exact ⟨fun _ => rfl, rfl, rfl⟩
  · rcases known with rfl | rfl <;> exact RecState.noConfusion

/-- A new BARRED record holds nothing (R104). -/
theorem newRecord_barred_fresh {u : Uid} {cls : Byte} (valid : validUid u = true) :
    (newRecord .barred .host u none none cls 0).Fresh :=
  ⟨valid, rfl, ⟨fun _ => rfl, rfl, rfl, rfl, rfl, rfl⟩, RecState.noConfusion, Nat.zero_le 12⟩

/-- An address given up goes to custody: into hold-down, or with HOLD_TIME 0 to the free list (R23). -/
theorem State.giveUpOf_custody (s : State) (r : Record) :
    s.giveUpOf r = s.setCustody (givenUp s.cfg.holdTime r.uid r.address s.custody) := by
  unfold State.giveUpOf
  cases r.address with
  | none => rfl
  | some a =>
    unfold State.giveUp givenUp
    dsimp only
    split <;> rfl

theorem Record.Continues.bound {binds : Nat} (counted : binds = rd.binds ∨ binds = saturate 255 rd.binds)
    (active : rd.state.active = true) :
    rd.Continues { rd with state := .bound, remaining := s.leaseTimer rd, binds := binds } :=
  ⟨rfl, rfl, fun shape => ⟨shape.1, by
    obtain ⟨a, holds⟩ := shape.holds active
    exact ⟨by simp [holds], s.leaseTimer_isSome rd⟩⟩, counted, .inl rfl, id⟩

end Sys2Proof.Machine

/-! PROOF. Each station request as an edit of the roster and one answer: JOIN, CONFIRM, RENEW, LEAVE (chapters 2, 4, 5),
the lookups and the group requests (6.3, 9.5). -/

namespace Sys2Proof.Machine

variable {r : Request} {s : State} {slot : Nat} {rd : Record}

/-! ### JOIN (2.2, 4.2) -/

/-- A RESERVED record without a reserved address holds none (R4). -/
theorem Record.Shape.unreserved (shape : rd.Shape) (reserved : rd.state = .reserved)
    (unassigned : rd.reservedAddress = none) : rd.address = none := by
  obtain ⟨-, fields⟩ := shape
  simp only [reserved] at fields
  unfold Record.reservedAddress at unassigned
  cases flag : rd.reserved with
  | true => rwa [if_pos flag] at unassigned
  | false => simpa [flag] using fields.2.1

/-- The address that the assignment order gives a RESERVED record is its own reserved one, or is taken (R26). -/
theorem Record.reserved_moves {p a : Nat} {c : Custody} (holdTime : Nat) (reserved : rd.state = .reserved)
    (assigned : assign rd.reservedAddress rd.uid p s.custody = some (a, c)) (shape : rd.Shape) :
    Moves holdTime rd.uid s.custody rd.address (some a) c := by
  cases own : rd.reservedAddress with
  | some b =>
    rw [own] at assigned
    cases assigned
    have held : rd.address = some a := by
      unfold Record.reservedAddress at own
      split at own
      · exact own
      · cases own
    rw [held]
    exact .keep (some a)
  | none =>
    rw [own] at assigned
    rw [shape.unreserved reserved own]
    exact .take a c (assign_takes _ _ _ _ _ assigned)

theorem State.joinReserved_serves (running : s.ctl.mode = .running) (record : s.recordAt slot = some rd)
    (reserved : rd.state = .reserved) : s.Serves r (s.joinReserved r slot { rd with cls := r.cls }) := by
  unfold State.joinReserved
  split
  next a c assigned =>
    exact (State.Edit.rewrite slot rd
      { rd with state := .offered, address := some a, remaining := some s.cfg.offerTime, cls := r.cls } c record (.offered r.cls) rfl (by simp [reserved])
      (Record.reserved_moves _ reserved assigned)
      (fun held => by rw [running] at held; cases held) (.inr (by simp [reserved]))).edited.serves_offer r _
  next =>
    exact (State.Edit.refresh slot rd { rd with cls := r.cls } record (.classed r.cls) rfl running).edited.serves_noticed
      r _ _

theorem State.joinRecord_serves (running : s.ctl.mode = .running) (record : s.recordAt slot = some rd) :
    s.Serves r (s.joinRecord r slot rd) := by
  have refreshed (x : Reason) : s.Serves r ((s.putRecord slot { rd with cls := r.cls }).refuse r x) :=
    (State.Edit.refresh slot rd { rd with cls := r.cls } record (.classed r.cls) rfl running).edited.serves_refuse r x
  have offered (active : rd.state.active = true) (calm : rd.state ≠ .evicting) :
      s.Serves r (s.offerRecord r slot { rd with cls := r.cls }) :=
    (State.Edit.rewrite slot rd { rd with state := .offered, remaining := some s.cfg.offerTime, cls := r.cls }
      s.custody record (.offeredAgain r.cls active) rfl
      (by constructor <;> intro barred <;> simp_all [RecState.active]) (fun _ => .keep rd.address)
      (fun held => by rw [running] at held; cases held) (.inr (by simp [calm]))).edited.serves_offer r _
  unfold State.joinRecord
  dsimp only
  split
  next state => exact State.joinReserved_serves running record state
  next state =>
    have continues : rd.Continues { rd with remaining := some s.cfg.offerTime, cls := r.cls } := by
      have again := Record.Continues.offeredAgain (rd := rd) (n := s.cfg.offerTime) r.cls (by simp [state, RecState.active])
      rwa [← state] at again
    exact (State.Edit.refresh slot rd _ record continues rfl running).edited.serves_offer r _
  next state => exact offered (by simp [state, RecState.active]) (by simp [state])
  next state => exact offered (by simp [state, RecState.active]) (by simp [state])
  next => exact refreshed .retry
  next => exact refreshed .barred

theorem State.joinOpen_serves (valid : validUid r.uid = true) (unknown : s.findUid r.uid = none) :
    s.Serves r (s.joinOpen r) := by
  unfold State.joinOpen
  split
  next slot a c vacant assigned =>
    obtain ⟨inTable, empty, -⟩ := s.vacantSlot_some slot vacant
    exact (State.Edit.create slot _ c inTable empty
      (newRecord_line_fresh valid (.inl rfl)) (.inl unknown)
      (.take a c (assign_takes _ _ _ _ _ assigned))).edited.serves_offer r _
  next => exact State.Edit.same.edited.serves_noticed r _ _

theorem State.joinApprove_serves (running : s.ctl.mode = .running) (valid : validUid r.uid = true)
    (unknown : s.findUid r.uid = none) : s.Serves r (s.joinApprove r) := by
  unfold State.joinApprove
  split
  next =>
    refine (State.Edit.requeue _ ?_ running).edited.serves_wait r 2
    rw [List.map_map]
    refine List.map_congr_left fun i _ => ?_
    by_cases own : i.uid = r.uid
    · simp [own, State.apqItem]
    · simp [own]
  next unqueued =>
    split
    next room =>
      refine (State.Edit.queue (s.apqItem r) valid unknown (fun j mem own => unqueued ?_) room
        running).edited.serves_waitNoticed r _ 2
      exact List.any_eq_true.2 ⟨j, mem, beq_iff_eq.2 own⟩
    next => exact State.Edit.same.edited.serves_refuse r _

theorem State.serveJoin_serves (running : s.ctl.mode = .running) : s.Serves r (s.serveJoin r) := by
  unfold State.serveJoin
  split
  next => exact State.Edit.same.edited.serves_refuse r _
  next invalid =>
    have valid : validUid r.uid = true := by simpa using invalid
    split
    next slot rd found => exact State.joinRecord_serves running (s.findUid_some _ slot rd found).1
    next unknown =>
      unfold State.joinUnknown
      split
      · exact State.joinOpen_serves valid unknown
      · exact State.joinApprove_serves running valid unknown
      · exact (State.Edit.unqueue _ List.eraseP_sublist).edited.serves_refuse r _

/-! ### Conflicts (5.1 to 5.3) -/

/-- A conflict moves the notices, the latch and the counter on, beside the holder's change bit (R92 to R94). -/
theorem State.conflict_serves (running : s.ctl.mode = .running) (record : s.recordAt slot = some rd) :
    s.Serves r (s.conflict r slot rd) := by
  have edited := (State.Edit.rewrite (moved := none) slot rd { rd with conflicts := saturate 15 rd.conflicts } s.custody
    record .conflicted rfl Iff.rfl (fun _ => .keep rd.address) (fun held => by rw [running] at held; cases held)
    (.inr Iff.rfl)).edited
  have short : (leadUid r ++ uidBytes r.uid ++ [1]).length ≤ 48 := by
    have := leadUid_length r
    simp only [List.length_append, uidBytes, List.length_cons, List.length_nil]
    omega
  have latched (cn : Cn) := Cn.follows_conflicts (cn.latchConflict r.source slot r.uid r.code)
  unfold State.conflict
  dsimp only
  split
  · exact ⟨_, _, _, _, edited, latched ((s.cn.markChange slot).setNotice .conflictLimit), fun _ => short, rfl⟩
  · exact ⟨_, _, _, _, edited, latched (s.cn.markChange slot), fun _ => short, rfl⟩

/-! ### CONFIRM, RENEW, LEAVE (2.3 to 2.7) -/

/-- A record moved to BOUND, its lease started, is answered with the binding ACK. -/
theorem State.bind_serves {binds : Nat} (running : s.ctl.mode = .running) (record : s.recordAt slot = some rd)
    (counted : binds = rd.binds ∨ binds = saturate 255 rd.binds) (active : rd.state.active = true)
    (calm : rd.state ≠ .evicting) :
    let rd' := { rd with state := .bound, remaining := s.leaseTimer rd, binds := binds }
    s.Serves r ((s.change slot rd').bindingAck r rd') :=
  (State.Edit.rewrite slot rd _ s.custody record (.bound counted active) rfl
    (by constructor <;> intro barred <;> simp_all [RecState.active]) (fun _ => .keep rd.address)
    (fun held => by rw [running] at held; cases held) (.inr (by simp [calm]))).edited.serves_bindingAck r record rfl

theorem State.renewLease_serves (running : s.ctl.mode = .running) (record : s.recordAt slot = some rd)
    (bound : rd.state = .bound) : s.Serves r (s.renewLease r slot rd) := by
  have continues : rd.Continues { rd with remaining := s.leaseTimer rd } := by
    have kept := Record.Continues.bound (s := s) (rd := rd) (.inl rfl) (by simp [bound, RecState.active])
    rwa [← bound] at kept
  exact (State.Edit.refresh slot rd _ record continues rfl running).edited.serves_bindingAck r record rfl

theorem State.bindOffered_serves (running : s.ctl.mode = .running) (record : s.recordAt slot = some rd)
    (offered : rd.state = .offered) : s.Serves r (s.bindOffered r slot rd) :=
  State.bind_serves running record (.inr rfl) (by simp [offered, RecState.active]) (by simp [offered])

theorem State.revive_serves (running : s.ctl.mode = .running) (record : s.recordAt slot = some rd)
    (lapsed : rd.state = .lapsed) : s.Serves r (s.revive r slot rd) :=
  State.bind_serves running record (.inl rfl) (by simp [lapsed, RecState.active]) (by simp [lapsed])

theorem State.serveConfirm_serves (running : s.ctl.mode = .running) : s.Serves r (s.serveConfirm r) := by
  have refused (x : Reason) : s.Serves r (s.refuse r x) := State.Edit.same.edited.serves_refuse r x
  unfold State.serveConfirm
  split
  next => exact refused _
  next =>
    split
    next => exact refused _
    next slot rd holder =>
      have record := (s.findAddr_some _ slot rd holder).1
      split
      next => exact State.conflict_serves running record
      next =>
        split
        next state => exact State.bindOffered_serves running record state
        next state => exact State.renewLease_serves running record state
        next state => exact State.revive_serves running record state
        next => exact refused _
        next => exact refused _
        next => exact refused _

/-- Adoption binds a RESERVED record at the source address, its own or taken (R47). -/
theorem State.adoptRecord_serves {c : Custody} (running : s.ctl.mode = .running) (record : s.recordAt slot = some rd)
    (reserved : rd.state = .reserved)
    (address : rd.Shape → Moves s.cfg.holdTime rd.uid s.custody rd.address (some r.source) c) :
    s.Serves r ((s.setCustody c).adoptRecord r slot rd) :=
  (State.Edit.rewrite slot rd _ c record (.boundAt (.inr rfl)) rfl (by simp [reserved]) address
    (fun held => by rw [running] at held; cases held) (.inr (by simp [reserved]))).edited.serves_bindingAck r record rfl

theorem State.adoptReserved_serves (running : s.ctl.mode = .running) (record : s.recordAt slot = some rd)
    (own : rd.uid = r.uid) (reserved : rd.state = .reserved) : s.Serves r (s.adoptReserved r slot rd) := by
  have refused (x : Reason) : s.Serves r (s.refuse r x) := State.Edit.same.edited.serves_refuse r x
  unfold State.adoptReserved
  split
  next =>
    split
    next here => exact State.adoptRecord_serves (c := s.custody) running record reserved fun _ => here ▸ .keep rd.address
    next => exact refused _
  next unreserved =>
    split
    next c claimed =>
      refine State.adoptRecord_serves running record reserved fun shape => ?_
      rw [shape.unreserved reserved (if_neg unreserved)]
      exact .take _ c (claim_takes _ _ _ _ (own ▸ claimed))
    next => exact refused _

theorem State.adoptUnknown_serves (valid : validUid r.uid = true) (unknown : s.findUid r.uid = none) :
    s.Serves r (s.adoptUnknown r) := by
  unfold State.adoptUnknown
  split
  next slot c policy vacant claimed =>
    obtain ⟨inTable, empty, -⟩ := s.vacantSlot_some slot vacant
    exact (State.Edit.create slot _ c inTable empty
      (newRecord_line_fresh valid (.inr rfl)) (.inl unknown)
      (.take r.source c (claim_takes _ _ _ _ claimed))).edited.serves_ack r _ fun _ => (by decide : 5 ≤ 42)
  next => exact State.Edit.same.edited.serves_refuse r _

theorem State.adopt_serves (running : s.ctl.mode = .running) (valid : validUid r.uid = true) :
    s.Serves r (s.adopt r) := by
  have refused (x : Reason) : s.Serves r (s.refuse r x) := State.Edit.same.edited.serves_refuse r x
  unfold State.adopt
  split
  next => exact refused _
  next =>
    split
    next slot rd found =>
      obtain ⟨record, own⟩ := s.findUid_some _ slot rd found
      split
      next state => exact State.adoptReserved_serves running record own state
      next => exact refused _
      next => exact refused _
    next unknown => exact State.adoptUnknown_serves valid unknown

theorem State.serveRenew_serves (running : s.ctl.mode = .running) : s.Serves r (s.serveRenew r) := by
  have refused (x : Reason) : s.Serves r (s.refuse r x) := State.Edit.same.edited.serves_refuse r x
  unfold State.serveRenew
  split
  next => exact refused _
  next invalid =>
    have valid : validUid r.uid = true := by simpa using invalid
    split
    next => exact State.adopt_serves running valid
    next slot rd holder =>
      have record := (s.findAddr_some _ slot rd holder).1
      split
      next => exact State.conflict_serves running record
      next =>
        split
        next state => exact State.renewLease_serves running record state
        next state => exact State.revive_serves running record state
        next state => exact State.bindOffered_serves running record state
        next => exact refused _
        next => exact State.adopt_serves running valid
        next => exact State.adopt_serves running valid

/-- The release rule on a record that holds an address is one edit: a reserved HOST record keeps it, another HOST record
gives it up, a LINE record is removed (R52 to R55). -/
theorem State.releaseRecord_edit {moved : Option Nat} (record : s.recordAt slot = some rd)
    (active : rd.state.active = true) (calm : moved = some slot ∨ rd.state ≠ .evicting) :
    s.Edit moved (s.releaseRecord slot rd) := by
  have stays : moved = some slot ∨ (RecState.reserved = .evicting ↔ rd.state = .evicting) :=
    calm.imp id fun calm => by simp [calm]
  have notBarred : RecState.reserved = .barred ↔ rd.state = .barred := by
    constructor <;> intro barred <;> simp_all [RecState.active]
  unfold State.releaseRecord
  split
  next =>
    rw [State.giveUpOf_custody]
    exact .vacate slot rd record calm
  next origin =>
    split
    next reserved =>
      refine .rewrite slot rd _ s.custody record ⟨rfl, rfl, fun shape => ?_, .inl rfl, .inl rfl, id⟩ rfl notBarred
        (fun _ => .keep rd.address) (fun _ _ _ _ _ none => by cases none) stays
      obtain ⟨a, holds⟩ := shape.holds active
      exact ⟨shape.1, origin, by simp [holds, reserved], rfl⟩
    next unreserved =>
      rw [State.giveUpOf_custody]
      refine .rewrite slot rd { rd with state := .reserved, remaining := none, address := none } _ record
        ⟨rfl, rfl, fun shape => ?_, .inl rfl, .inl rfl, id⟩ rfl notBarred (fun _ => .give rd.address)
        (fun _ _ _ _ _ none => by cases none) stays
      exact ⟨shape.1, origin, by simpa using unreserved, rfl⟩

theorem State.serveLeave_serves (running : s.ctl.mode = .running) : s.Serves r (s.serveLeave r) := by
  have acked {v : State} (edited : s.Edited none v) : s.Serves r (v.plainAck r) :=
    edited.serves_ack r _ fun _ => (by decide : 2 ≤ 42)
  unfold State.serveLeave
  split
  next => exact State.Edit.same.edited.serves_refuse r _
  next =>
    split
    next => exact acked State.Edit.same.edited
    next slot rd holder =>
      have record := (s.findAddr_some _ slot rd holder).1
      have released (active : rd.state.active = true) (calm : rd.state ≠ .evicting) :
          s.Serves r ((s.releaseRecord slot rd).plainAck r) :=
        acked (State.releaseRecord_edit record active (.inr calm)).edited
      split
      next => exact State.conflict_serves running record
      next =>
        split
        next state => exact released (by simp [state, RecState.active]) (by simp [state])
        next state => exact released (by simp [state, RecState.active]) (by simp [state])
        next state => exact released (by simp [state, RecState.active]) (by simp [state])
        next => exact acked State.Edit.same.edited
        next => exact acked State.Edit.same.edited
        next => exact acked State.Edit.same.edited

end Sys2Proof.Machine

/-! PROOF. The lookups and the station group requests as edits and answers, and the taking of any request (9.1 to 9.5,
6.3). -/

namespace Sys2Proof.Machine

variable {r : Request} {s : State} {slot : Nat} {rd : Record}

/-! ### Lookups (9.5) -/

theorem State.serves_ack {contents : List Byte} (short : s.CapacityLaw → contents.length ≤ 42) :
    s.Serves r (s.ack r contents) :=
  State.Edit.same.edited.serves_ack r contents short

theorem State.serves_refuse (x : Reason) : s.Serves r (s.refuse r x) := State.Edit.same.edited.serves_refuse r x

theorem State.serveResolve_serves : s.Serves r (s.serveResolve r) := by
  unfold State.serveResolve
  split
  next => exact State.serves_refuse _
  next =>
    split
    next => exact State.serves_ack fun _ => (by decide : 9 ≤ 42)
    next => exact State.serves_ack fun _ => (by decide : 9 ≤ 42)

theorem State.serveIdentify_serves : s.Serves r (s.serveIdentify r) := by
  unfold State.serveIdentify
  dsimp only
  split
  next => exact State.serves_ack fun _ => (by decide : 1 ≤ 42)
  next slot rd found =>
    refine State.serves_ack fun law => ?_
    have record : s.recordAt slot = some rd := by
      split at found
      · exact (s.findAddr_some _ slot rd found).1
      · cases found
    have := law.record record
    simp only [uidBytes, groupListBytes, labelBytes, List.length_append, List.length_cons, List.length_map,
      List.length_nil]
    omega

theorem State.serveInfo_serves : s.Serves r (s.serveInfo r) := State.serves_ack fun _ => (by decide : 8 ≤ 42)

theorem State.serveGroupList_serves : s.Serves r (s.serveGroupList r) := by
  unfold State.serveGroupList
  dsimp only
  split
  next => exact State.serves_refuse _
  next =>
    refine State.serves_ack fun law => ?_
    have := law.members (natAt r.payload 0)
    have := List.length_filter_le (fun m => s.listed m) (s.group (natAt r.payload 0)).members
    simp only [List.length_append, List.length_cons, List.length_map, List.length_nil]
    omega

/-! ### SUBSCRIBE and UNSUBSCRIBE (R115, R116) -/

/-- The group ACK carries the groups of the slot's record, whichever they are. -/
theorem State.Edited.serves_groupAck {v : State} (edited : s.Edited none v) (record : v.recordAt slot = some rd)
    (few : s.CapacityLaw → rd.groups.length ≤ 5) : s.Serves r (v.groupAck r slot) := by
  rw [State.groupAck, record]
  refine edited.serves_ack r _ fun law => ?_
  have := few law
  simp only [groupListBytes, List.length_cons, List.length_map]
  omega

/-- The record of a slot that joins a group gains the group at the end of its groups (R109). -/
theorem State.joinGroup_recordAt (g : Nat) (record : s.recordAt slot = some rd) (i : Nat) :
    (s.joinGroup slot g).recordAt i = if i = slot then some { rd with groups := rd.groups ++ [g] } else s.recordAt i := by
  rw [s.joinGroup_eq slot g rd record]
  exact s.recordAt_putRecord slot i _ (s.recordAt_lt slot rd record)

theorem State.serveSubscribe_serves (bound : s.boundSource r.source = true) : s.Serves r (s.serveSubscribe r) := by
  unfold State.serveSubscribe
  dsimp only
  split
  next => exact State.serves_refuse _
  next slot rd holder =>
    have record := (s.findAddr_some _ slot rd holder).1
    have notBarred : rd.state ≠ .barred := fun barred => by simp [State.boundSource, holder, barred] at bound
    split
    next => exact State.serves_refuse _
    next known =>
      split
      next => exact State.serves_refuse _
      next =>
        split
        next => exact State.Edit.same.edited.serves_groupAck record fun law => Nat.le_succ_of_le (law.record record).1
        next outside =>
          split
          next => exact State.serves_refuse _
          next few =>
            split
            next => exact State.serves_refuse _
            next room =>
              refine (State.Regroup.join slot _ rd record notBarred (by omega) (.inl outside) (by omega)
                (by omega)).edited.serves_groupAck ((State.joinGroup_recordAt _ record slot).trans (if_pos rfl))
                fun _ => ?_
              simp only [List.length_append, List.length_cons, List.length_nil]
              omega

theorem State.serveUnsubscribe_serves : s.Serves r (s.serveUnsubscribe r) := by
  unfold State.serveUnsubscribe
  dsimp only
  split
  next => exact State.serves_refuse _
  next slot rd holder =>
    have record := (s.findAddr_some _ slot rd holder).1
    split
    next => exact State.serves_refuse _
    next =>
      split
      next => exact State.serves_refuse _
      next =>
        split
        next => exact State.Edit.same.edited.serves_groupAck record fun law => Nat.le_succ_of_le (law.record record).1
        next member =>
          refine (State.Regroup.leave slot _ (not_not.1 member)).edited.serves_groupAck
            (rd := rd.without (natAt r.payload 0)) ?_ fun law => ?_
          · rw [s.leaveGroup_recordAt, record]
            simp
          · have := List.length_erase_le (l := rd.groups) (a := natAt r.payload 0)
            have := (law.record record).1
            simp only [Record.without]
            omega

/-! ### Taking (9.1, 9.2) -/

/-- A request at check 7: RUNNING, the right length, and for a lookup or group request a bound source (R152). -/
theorem State.admission_serve {b : Bool} (h : s.admission b r = .serve) :
    s.ctl.mode = .running ∧ requestLength r.code = some r.payload.length ∧
    (lookupOrGroupCode r.code = true → s.boundSource r.source = true) := by
  unfold State.admission at h
  split at h
  next => cases h
  next =>
    split at h
    next => cases h
    next =>
      split at h
      next => cases h
      next notHeld =>
        split at h
        next => cases h
        next =>
          split at h
          next => cases h
          next length =>
            split at h
            next => cases h
            next =>
              split at h
              next => cases h
              next bound =>
                refine ⟨?_, not_not.1 length, fun lookup => by simpa [lookup] using bound⟩
                cases mode : s.ctl.mode with
                | held => exact absurd mode notHeld
                | running => rfl

/-- A request that TC takes is discarded and counted, or served with one answer (R152). -/
inductive State.Disposes (r : Request) (s : State) : State → Prop
  | discarded (cn : Cn) (counted : s.cn.Follows cn) : Disposes r s (s.setCn cn)
  | served (t : State) (serves : s.Serves r t) : Disposes r s t

/-- What an owning rule has to do for the requests of the kind it serves. -/
def ServesKind (kind : Byte → Bool) (serve : Request → State → State) : Prop :=
  ∀ (r : Request) (s : State), kind r.code = true → s.ctl.mode = .running →
    (lookupOrGroupCode r.code = true → s.boundSource r.source = true) → s.Serves r (serve r s)

theorem State.decideRequest_disposes {kind : Byte → Bool} {serve : Request → State → State} (b : Bool)
    (owner : ServesKind kind serve) (isKind : kind r.code = true) : s.Disposes r (s.decideRequest b serve r) := by
  unfold State.decideRequest
  split
  next => exact .discarded _ ((Cn.follows_late s.cn).trans (Cn.follows_setNotice _ .answerLate))
  next => exact .discarded _ (Cn.follows_malformed s.cn)
  next => exact .served _ (State.Edit.same.edited.serves_wait r 1)
  next => exact .served _ (State.serves_refuse _)
  next => exact .served _ (State.serves_refuse _)
  next => exact .served _ (State.serves_refuse _)
  next admitted =>
    obtain ⟨running, -, bound⟩ := State.admission_serve admitted
    exact .served _ (owner r s isKind running bound)

/-- What a request's command does: nothing, or the head of RXQ is taken, with room in TXQ, and decided. -/
inductive State.TakesRequest (s : State) : State → Prop
  | idle : TakesRequest s s
  | took (r : Request) (rest : List Request) (t : State) (taking : Taking r rest s)
      (disposes : State.Disposes r { s with rxq := rest } t) : TakesRequest s t

theorem State.takeRequest_takes {kind : Byte → Bool} {serve : Request → State → State} (b : Bool)
    (owner : ServesKind kind serve) (s : State) : s.TakesRequest (s.takeRequest kind b serve) := by
  rcases s.takeRequest_cases kind b serve with idle | ⟨q, rest, taking, isKind, taken⟩
  · rw [idle]
    exact .idle
  · rw [taken]
    exact .took q rest _ taking (State.decideRequest_disposes b owner isKind)

/-- The bound source of a lookup or group request, by its code (R158). -/
theorem ServesKind.ofCode {code : Byte} {serve : Request → State → State} (lookup : lookupOrGroupCode code = true)
    (serves : ∀ (r : Request) (s : State), s.boundSource r.source = true → s.Serves r (serve r s)) :
    ServesKind (fun c => c == code) serve := by
  intro r s isCode _ bound
  obtain rfl : r.code = code := by simpa using isCode
  exact serves r s (bound lookup)

end Sys2Proof.Machine

/-! PROOF. What a host command does: it is refused and changes nothing, or it makes one edit of the roster, with slots
joining or leaving groups, and queues at most one frame (chapters 4, 5, 6, 10). -/

namespace Sys2Proof.Machine

variable {s : State} {slot : Nat} {rd : Record}

/-- The slot's record is EVICTING. -/
def State.evicting (slot : Nat) (s : State) : Bool := slotHas (fun r => r.state == .evicting) (s.recordAt slot)

/-- What a command that reads or changes the roster does, with its result. -/
inductive State.Performs (c : Instr) (s : State) : Result × State → Prop
  | refused (x : ResultCode) (failed : x ≠ .done) : Performs c s (result x, s)
  /-- Only APPROVE, refused FULL for want of a slot or an address, sets POOL_EXHAUSTED (R82). -/
  | exhausted (approve : c = .approve) : Performs c s (result .full, s.setNotice .poolExhausted)
  | performed (payload : List Byte) (v : State) (short : s.CapacityLaw → payload.length ≤ 64)
      (edited : s.Edited none v) : Performs c s (done payload, v)
  /-- APPROVE queues an OFFER (R83). -/
  | offered (payload : List Byte) (v : State) (e : Entry) (short : payload.length ≤ 64) (edited : s.Edited none v)
      (room : s.txq.length < 6) (unsent : e.inAttempt = false) (kind : e.kind = .offer)
      (frame : e.frame.payload.length ≤ 48) : Performs c s (done payload, v.enqueue e)
  /-- EVICT queues an EVICT frame for the slot whose record it moves to EVICTING (R96, R97). -/
  | evicts (slot : Nat) (v : State) (e : Entry) (edit : s.Edit (some slot) v) (room : s.txq.length < 6)
      (unsent : e.inAttempt = false) (kind : e.kind = .evict slot) (frame : e.frame.payload.length ≤ 48)
      (before : s.evicting slot = false) (after : v.evicting slot = true) : Performs c s (done [], v.enqueue e)

variable {c : Instr}

theorem State.Edit.performs {v : State} (edit : s.Edit none v) (payload : List Byte) (short : payload.length ≤ 64) :
    s.Performs c (done payload, v) :=
  .performed payload v (fun _ => short) edit.edited

/-! ### PROVISION (R179, R180) -/

/-- What PROVISION's checks leave for the record: its UID, its groups and its label fit (R179). -/
theorem State.provisionCheck_none {p : ProvisionArgs} (passed : s.provisionCheck p = none) :
    validUid p.uid = true ∧ p.address ≤ 60 ∧ p.label.length ≤ 12 ∧ (∀ g ∈ p.groups, g < 16) ∧ s.findUid p.uid = none ∧
    (p.address ≠ 0 → claim p.address p.uid s.custody ≠ none) ∧ (∀ g ∈ p.groups, (s.group g).members.length < 24) ∧
    p.groups.length ≤ 4 ∧ p.groups.Nodup := by
  unfold State.provisionCheck at passed
  split at passed
  next => cases passed
  next args =>
    split at passed
    next => cases passed
    next unknown =>
      split at passed
      next => cases passed
      next =>
        split at passed
        next => cases passed
        next claimed =>
          split at passed
          next => cases passed
          next rooms =>
            split at passed
            next => cases passed
            next groups =>
              simp only [not_or, List.any_eq_true, not_exists, not_and, decide_eq_true_eq, not_lt, not_le,
                Bool.not_eq_false, not_not] at args groups rooms claimed
              obtain ⟨valid, address, -, label, known⟩ := args
              exact ⟨valid, address, label, fun g mem => Nat.lt_succ_of_le (known g mem), by simpa using unknown,
                claimed, rooms, groups⟩

/-- A group that a slot does not join stays as it was. -/
theorem State.joinGroup_group_ne (g g' : Nat) (record : s.recordAt slot = some rd) (other : g' ≠ g) :
    (s.joinGroup slot g).group g' = s.group g' := by
  rw [s.joinGroup_eq slot g rd record]
  simp only [State.group, List.getD_eq_getElem?_getD, List.getElem?_modify_ne _ _ other.symm]

/-- A record joins groups it is not in, one after the other, where each has room (R180). -/
theorem State.joinGroups_regroups (gs : List Nat) (s : State) (rd : Record) (record : s.recordAt slot = some rd)
    (notBarred : rd.state ≠ .barred) (known : ∀ g ∈ gs, g < 16) (rooms : ∀ g ∈ gs, (s.group g).members.length < 24)
    (distinct : (rd.groups ++ gs).Nodup) (few : (rd.groups ++ gs).length ≤ 4) :
    s.Regroups (gs.foldl (fun s g => s.joinGroup slot g) s) := by
  induction gs generalizing s rd with
  | nil => exact .nil s
  | cons g rest ih =>
    have outside : g ∉ rd.groups := fun mem =>
      (List.nodup_append.1 distinct).2.2 g mem g List.mem_cons_self rfl
    have once : g ∉ rest := (List.nodup_cons.1 (List.nodup_append.1 distinct).2.1).1
    simp only [List.length_append, List.length_cons] at few
    refine .cons s _ _ (.join slot g rd record notBarred (known g List.mem_cons_self) (.inr outside) (by omega)
      (rooms g List.mem_cons_self)) ?_
    refine ih _ { rd with groups := rd.groups ++ [g] } ((State.joinGroup_recordAt g record slot).trans (if_pos rfl))
      notBarred (fun g' mem => known g' (List.mem_cons_of_mem g mem)) (fun g' mem => ?_) ?_ ?_
    · rw [State.joinGroup_group_ne g g' record (fun same => once (same ▸ mem))]
      exact rooms g' (List.mem_cons_of_mem g mem)
    · simpa using distinct
    · simp only [List.length_append, List.length_cons, List.length_nil]
      omega

/-- The record that PROVISION makes has the shape of RESERVED (R4, R180). -/
theorem provisionRecord_fresh {p : ProvisionArgs} (valid : validUid p.uid = true) (label : p.label.length ≤ 12) :
    (provisionRecord p).Fresh := by
  refine ⟨valid, rfl, ⟨fun line => (by cases line), rfl, ?_, rfl⟩, RecState.noConfusion, label⟩
  by_cases none : p.address = 0
  · simp [provisionRecord, newRecord, none]
  · simp [provisionRecord, newRecord, none]

theorem State.provision_performs (args : List Byte) : s.Performs c (s.provision args) := by
  unfold State.provision
  dsimp only
  split
  next slot passed vacant =>
    obtain ⟨valid, -, label, known, unknown, claimed, rooms, few, distinct⟩ := State.provisionCheck_none passed
    obtain ⟨inTable, empty, -⟩ := s.vacantSlot_some slot vacant
    refine .performed _ _ (fun _ => (by decide : 1 ≤ 64)) ?_
    have created (custody : Custody) (address : Moves s.cfg.holdTime (provisionArgs args).uid s.custody none
        (provisionRecord (provisionArgs args)).address custody) :
        s.Edited none ((provisionArgs args).groups.foldl (fun s g => s.joinGroup slot g)
          ((s.setCustody custody).create slot (provisionRecord (provisionArgs args)))) := by
      refine ⟨_, .create slot _ custody inTable empty (provisionRecord_fresh valid label) (.inl unknown) address, ?_⟩
      exact State.joinGroups_regroups _ _ (provisionRecord (provisionArgs args))
        ((s.recordAt_putRecord slot slot _ inTable).trans (if_pos rfl)) RecState.noConfusion known rooms distinct few
    unfold State.provisionAt
    by_cases none : (provisionArgs args).address = 0
    · have keeps : (provisionRecord (provisionArgs args)).address = Option.none := if_pos none
      simp only [if_pos none]
      exact created s.custody (by rw [keeps]; exact .keep Option.none)
    · have takes : (provisionRecord (provisionArgs args)).address = some (provisionArgs args).address := if_neg none
      simp only [if_neg none]
      split
      next custody claimed => exact created custody (by rw [takes]; exact .take _ custody (claim_takes _ _ _ _ claimed))
      next unclaimed => exact absurd unclaimed (claimed none)
  next _ _ x refused =>
    refine .refused x fun isDone => ?_
    subst isDone
    revert refused
    unfold State.provisionCheck
    repeat' split
    all_goals exact fun h => by cases h
  next => exact .refused .full ResultCode.noConfusion

/-! ### EDIT (R181, R182) -/

theorem editReserved_shape {v : Option Byte} (shape : rd.Shape)
    (allowed : v = some 1 → rd.origin ≠ .line ∧ rd.address ≠ none) : (editReserved v rd).Shape := by
  obtain ⟨line, fields⟩ := shape
  unfold editReserved
  cases v with
  | none => exact ⟨line, fields⟩
  | some v =>
    dsimp only
    split
    next set =>
      obtain ⟨notLine, holds⟩ := allowed (set ▸ rfl)
      refine ⟨fun isLine => absurd isLine notLine, ?_⟩
      cases state : rd.state <;> simp only [state] at fields ⊢
      case barred => exact absurd fields.2.1 holds
      case reserved => exact ⟨fields.1, Option.isSome_iff_ne_none.2 holds, fields.2.2⟩
      all_goals exact fields
    next =>
      split
      next gives =>
        refine ⟨fun _ => rfl, ?_⟩
        simp only [gives.2] at fields ⊢
        exact ⟨fields.1, rfl, fields.2.2⟩
      next keeps =>
        refine ⟨fun _ => rfl, ?_⟩
        cases state : rd.state <;> simp only [state] at fields ⊢
        case reserved =>
          have unreserved : rd.reserved = false := by simpa [state] using keeps
          exact ⟨fields.1, fields.2.1.trans unreserved, fields.2.2⟩
        case barred => exact ⟨fields.1, fields.2.1, trivial, fields.2.2.2⟩
        all_goals exact fields

theorem State.editPin_shape {v : Option Byte} (shape : rd.Shape) (allowed : v.isSome = true → rd.state ≠ .barred) :
    (s.editPin v rd).Shape := by
  obtain ⟨line, fields⟩ := shape
  unfold State.editPin
  cases v with
  | none => exact ⟨line, fields⟩
  | some v =>
    have notBarred := allowed rfl
    dsimp only
    split
    next =>
      split
      next state =>
        simp only [state] at fields
        exact ⟨line, by simp [state, fields.1]⟩
      next state =>
        simp only [state] at fields
        exact ⟨line, by simp [fields.1]⟩
      next notBound notLapsed =>
        refine ⟨line, ?_⟩
        cases state : rd.state <;> simp only [state] at fields ⊢
        case bound => exact absurd state notBound
        case lapsed => exact absurd state notLapsed
        case barred => exact absurd state notBarred
        all_goals exact fields
    next =>
      split
      next unpins =>
        simp only [unpins.2] at fields
        exact ⟨line, by simp [unpins.2, fields.1]⟩
      next keeps =>
        refine ⟨line, ?_⟩
        cases state : rd.state <;> simp only [state] at fields ⊢
        case bound =>
          have unpinned : rd.pinned = false := by simpa [state] using keeps
          exact ⟨fields.1, fields.2.trans (by rw [unpinned])⟩
        case lapsed => exact ⟨fields.1, fields.2.1, trivial⟩
        case barred => exact absurd state notBarred
        all_goals exact fields

end Sys2Proof.Machine

/-! PROOF. EDIT, EVICT, DELETE, BAR, APPROVE, DENY, the group commands and the commands that read, each as a refusal or one
edit of the roster with its report (4.4, 5.4, 5.8, 5.9, 6.2, 10.3, 10.5, 10.6). -/

namespace Sys2Proof.Machine

variable {s : State} {slot : Nat} {rd : Record} {c : Instr}

/-! ### EDIT (R181, R182) -/

/-- The reserved flag of a record set, kept or cleared changes neither its identity, its timer nor its counts. -/
theorem editReserved_fields (v : Option Byte) (rd : Record) :
    ∃ reserved address, editReserved v rd = { rd with reserved := reserved, address := address } ∧
      (address = rd.address ∨ address = none) := by
  unfold editReserved
  cases v with
  | none => exact ⟨rd.reserved, rd.address, rfl, .inl rfl⟩
  | some v =>
    dsimp only
    split
    next => exact ⟨true, rd.address, rfl, .inl rfl⟩
    next =>
      split
      next => exact ⟨false, none, rfl, .inr rfl⟩
      next => exact ⟨false, rd.address, rfl, .inl rfl⟩

/-- The pin set or cleared changes state and timer at most: LAPSED to BOUND, and a timer stopped or started (R68, R69). -/
theorem State.editPin_fields (v : Option Byte) (rd : Record) (s : State) :
    ∃ state pinned remaining, s.editPin v rd = { rd with state := state, pinned := pinned, remaining := remaining } ∧
      (state = rd.state ∨ rd.state = .lapsed ∧ state = .bound) ∧
      (remaining = rd.remaining ∨ remaining = none ∨ rd.pinned = true ∧ rd.state = .bound) := by
  unfold State.editPin
  cases v with
  | none => exact ⟨rd.state, rd.pinned, rd.remaining, rfl, .inl rfl, .inl rfl⟩
  | some v =>
    dsimp only
    split
    next =>
      split
      next => exact ⟨rd.state, true, none, rfl, .inl rfl, .inr (.inl rfl)⟩
      next lapsed => exact ⟨.bound, true, none, rfl, .inr ⟨lapsed, rfl⟩, .inr (.inl rfl)⟩
      next => exact ⟨rd.state, true, rd.remaining, rfl, .inl rfl, .inl rfl⟩
    next =>
      split
      next bound => exact ⟨rd.state, false, some s.cfg.leaseTime, rfl, .inl rfl, .inr (.inr bound)⟩
      next => exact ⟨rd.state, false, rd.remaining, rfl, .inl rfl, .inl rfl⟩

/-- A pinned BOUND record runs no timer (R4). -/
theorem Record.Shape.pinned_remaining (shape : rd.Shape) (pinned : rd.pinned = true) (bound : rd.state = .bound) :
    rd.remaining = none := by
  obtain ⟨-, fields⟩ := shape
  simp only [bound, pinned] at fields
  simpa using fields.2

theorem editLabel_fields (v : Option (List Byte)) (rd : Record) :
    editLabel v rd = { rd with label := v.getD rd.label } := by
  cases v <;> rfl

/-- EDIT's checks leave what its edit relies on: a label of at most 12 bytes, no pin for a BARRED record, and no
reservation for a LINE record or one without an address (R181). -/
theorem edit_allowed {e : EditArgs} (good : editBad e = false) (fits : editStateBad e rd = false) :
    (e.label.getD []).length ≤ 12 ∧ (e.pin.isSome = true → rd.state ≠ .barred) ∧
    (e.reserve = some 1 → rd.origin ≠ .line ∧ rd.address ≠ none) := by
  simp only [editBad, Bool.or_eq_false_iff, decide_eq_false_iff_not] at good
  obtain ⟨-, label⟩ := good
  simp only [editStateBad, Bool.or_eq_false_iff, Bool.and_eq_false_iff, beq_eq_false_iff_ne] at fits
  refine ⟨by omega, fun pins barred => ?_, fun reserves => ?_⟩
  · rcases fits.1 with unpinned | ⟨-, notBarred⟩
    · rw [pins] at unpinned; cases unpinned
    · exact notBarred barred
  · rcases fits.2 with unreserved | allowed
    · exact absurd reserves unreserved
    · exact allowed

theorem State.editRecord_edit {e : EditArgs} (record : s.recordAt e.slot = some rd) (good : editBad e = false)
    (fits : editStateBad e rd = false) : s.Edit none (s.editRecord e rd) := by
  obtain ⟨label, pins, reserves⟩ := edit_allowed good fits
  have shape := fun sh : rd.Shape => State.editPin_shape (s := s) (v := e.pin) (editReserved_shape sh reserves)
  obtain ⟨reserved, address, isReserved, oldAddress⟩ := editReserved_fields e.reserve rd
  obtain ⟨state, pinned, remaining, isPinned, oldState, oldTimer⟩ := s.editPin_fields e.pin (editReserved e.reserve rd)
  rw [isReserved] at isPinned oldState oldTimer shape
  rw [isPinned] at shape
  unfold State.editRecord
  simp only [isReserved, isPinned, editLabel_fields, State.giveUpOf_custody]
  have edited (c : Custody) (moves : Moves s.cfg.holdTime rd.uid s.custody rd.address address c) :
      s.Edit none ((s.change e.slot { rd with
        state := state, address := address, reserved := reserved, pinned := pinned, remaining := remaining
        label := e.label.getD rd.label }).setCustody c) := by
    refine .rewrite e.slot rd _ c record ⟨rfl, rfl, fun sh => shape sh pins, .inl rfl, .inl rfl, fun short => ?_⟩ rfl ?_
      (fun _ => moves) (fun _ sh n n' old new => ?_) (.inr ?_)
    · cases given : e.label with
      | none => exact short
      | some l => simpa [given] using label
    · rcases oldState with same | ⟨lapsed, bound⟩
      · exact same ▸ Iff.rfl
      · simp only at lapsed; simp [lapsed, bound]
    · rcases oldTimer with same | stopped | ⟨wasPinned, wasBound⟩
      · simp only at same new
        rw [same, old] at new
        exact (Option.some.inj new).le
      · simp only at stopped new
        rw [stopped] at new; cases new
      · rw [sh.pinned_remaining wasPinned wasBound] at old; cases old
    · rcases oldState with same | ⟨lapsed, bound⟩
      · exact same ▸ Iff.rfl
      · simp only at lapsed; simp [lapsed, bound]
  split
  next gives =>
    exact edited _ (gives ▸ .give rd.address)
  next kept =>
    have same : address = rd.address := oldAddress.resolve_right kept
    exact edited s.custody (by rw [same]; exact .keep rd.address)

theorem State.edit_performs (args : List Byte) : s.Performs c (s.edit args) := by
  unfold State.edit
  dsimp only
  split
  next => exact .refused .badArgument ResultCode.noConfusion
  next good =>
    split
    next => exact .refused .notFound ResultCode.noConfusion
    next rd record =>
      split
      next => exact .refused .badState ResultCode.noConfusion
      next fits =>
        exact (State.editRecord_edit record (by simpa using good) (by simpa using fits)).performs [] (Nat.zero_le 64)

/-! ### EVICT, DELETE, BAR (5.4, 5.8, 5.9) -/

theorem State.evict_performs (args : List Byte) : s.Performs c (s.evict args) := by
  unfold State.evict
  dsimp only
  split
  next => exact .refused .badArgument ResultCode.noConfusion
  next =>
    split
    next => exact .refused .notFound ResultCode.noConfusion
    next rd record =>
      split
      next => exact .refused .badState ResultCode.noConfusion
      next fit =>
        split
        next => exact .refused .full ResultCode.noConfusion
        next room =>
          have active : rd.state.active = true := by
            cases state : rd.state <;> simp [state, RecState.active] at fit ⊢
          refine .evicts (natAt args 0) _ _ (.rewrite (natAt args 0) rd
            { rd with state := .evicting, remaining := none } s.custody record
            ⟨rfl, rfl, fun shape => ?_, .inl rfl, .inl rfl, id⟩ rfl ?_ (fun _ => .keep rd.address)
            (fun _ _ _ _ _ new => by cases new) (.inl rfl)) (by omega) rfl rfl (by decide : 7 ≤ 48) ?_ ?_
          · obtain ⟨a, holds⟩ := shape.holds active
            exact ⟨shape.1, by simp [holds]⟩
          · constructor <;> intro barred <;> simp_all [RecState.active]
          · simp only [State.evicting, record, slotHas]
            simpa using fun evicting => fit (.inr (.inl evicting))
          · have now := s.recordAt_putRecord (natAt args 0) (natAt args 0) { rd with state := .evicting, remaining := none }
              (s.recordAt_lt _ rd record)
            rw [if_pos rfl] at now
            exact (congrArg (slotHas _) now).trans rfl

theorem State.deleteRecord_performs (args : List Byte) : s.Performs c (s.deleteRecord args) := by
  unfold State.deleteRecord
  dsimp only
  split
  next => exact .refused .badArgument ResultCode.noConfusion
  next =>
    split
    next => exact .refused .notFound ResultCode.noConfusion
    next rd record =>
      split
      next => exact .refused .badState ResultCode.noConfusion
      next inactive =>
        rw [State.giveUpOf_custody]
        exact (State.Edit.vacate _ rd record
          (.inr fun evicting => inactive (by simp [evicting, RecState.active]))).performs [] (Nat.zero_le 64)

theorem State.bar_performs (args : List Byte) : s.Performs c (s.bar args) := by
  unfold State.bar
  dsimp only
  split
  next => exact .refused .badArgument ResultCode.noConfusion
  next valid =>
    split
    next slot rd found =>
      split
      next reserved =>
        obtain ⟨record, -⟩ := s.findUid_some _ slot rd found
        unfold State.barReserved
        rw [State.giveUpOf_custody]
        refine (State.Edit.bar slot rd { rd with
          state := .barred, address := none, reserved := false, pinned := false, groups := [] } record
          ⟨rfl, rfl, fun shape => ?_, .inl rfl, .inl rfl, id⟩ reserved rfl rfl rfl rfl).performs _ (by decide : 1 ≤ 64)
        obtain ⟨-, fields⟩ := shape
        simp only [reserved] at fields
        exact ⟨fun _ => rfl, fields.1, rfl, rfl, rfl, fields.2.2⟩
      next => exact .refused .badState ResultCode.noConfusion
    next unknown =>
      split
      next slot vacant =>
        obtain ⟨inTable, empty, -⟩ := s.vacantSlot_some slot vacant
        have known : validUid (uidAt args 0) = true := by simpa using valid
        exact (State.Edit.create slot _ s.custody inTable empty (newRecord_barred_fresh known)
          (.inl unknown) (.keep none)).performs _ (by decide : 1 ≤ 64)
      next => exact .refused .full ResultCode.noConfusion

/-! ### APPROVE and DENY (4.4) -/

/-- The item that is found carries the UID. -/
theorem State.findItem_some {u : Uid} {item : ApqItem} (found : s.findItem u = some item) :
    ∃ i ∈ s.ros.apq, i.uid = u :=
  ⟨item, List.mem_of_find?_eq_some found, by simpa using List.find?_some found⟩

theorem State.approve_performs (approve : c = .approve) (args : List Byte) : s.Performs c (s.approve args) := by
  unfold State.approve
  dsimp only
  split
  next => exact .refused .badArgument ResultCode.noConfusion
  next valid =>
    split
    next => exact .refused .notFound ResultCode.noConfusion
    next item found =>
      split
      next => exact .refused .full ResultCode.noConfusion
      next room =>
        split
        next slot a custody vacant assigned =>
          obtain ⟨inTable, empty, -⟩ := s.vacantSlot_some slot vacant
          have known : validUid (uidAt args 0) = true := by simpa using valid
          exact .offered _ _ _ (by decide : 1 ≤ 64) (State.Edit.create slot _ custody inTable empty
            (newRecord_line_fresh known (.inl rfl)) (.inr (State.findItem_some found))
            (.take a custody (assign_takes _ _ _ _ _ assigned))).edited (by omega) rfl rfl (by decide : 12 ≤ 48)
        next => exact .exhausted approve

theorem State.deny_performs (args : List Byte) : s.Performs c (s.deny args) := by
  unfold State.deny
  dsimp only
  split
  next => exact .refused .badArgument ResultCode.noConfusion
  next valid =>
    split
    next => exact .refused .notFound ResultCode.noConfusion
    next item found =>
      split
      next => exact (State.Edit.unqueue _ List.eraseP_sublist).performs [] (Nat.zero_le 64)
      next =>
        split
        next slot vacant =>
          obtain ⟨inTable, empty, -⟩ := s.vacantSlot_some slot vacant
          have known : validUid (uidAt args 0) = true := by simpa using fun invalid => valid (.inl invalid)
          exact (State.Edit.create slot _ s.custody inTable empty (newRecord_barred_fresh known)
            (.inr (State.findItem_some found)) (.keep none)).performs _ (by decide : 1 ≤ 64)
        next => exact .refused .full ResultCode.noConfusion

/-! ### Group commands (6.2) -/

theorem State.groupAdd_performs (args : List Byte) : s.Performs c (s.groupAdd args) := by
  unfold State.groupAdd
  dsimp only
  split
  next => exact .refused .badArgument ResultCode.noConfusion
  next known =>
    split
    next => exact .refused .notFound ResultCode.noConfusion
    next rd record =>
      split
      next => exact .refused .badState ResultCode.noConfusion
      next notBarred =>
        split
        next => exact .refused .duplicate ResultCode.noConfusion
        next outside =>
          split
          next => exact .refused .limit ResultCode.noConfusion
          next few =>
            split
            next => exact .refused .full ResultCode.noConfusion
            next room =>
              exact .performed [] _ (fun _ => Nat.zero_le 64) (State.Regroup.join _ _ rd record notBarred (by omega)
                (.inl outside) (by omega) (by omega)).edited

theorem State.groupRemove_performs (args : List Byte) : s.Performs c (s.groupRemove args) := by
  unfold State.groupRemove
  dsimp only
  split
  next => exact .refused .badArgument ResultCode.noConfusion
  next =>
    split
    next => exact .refused .notFound ResultCode.noConfusion
    next member =>
      exact .performed [] _ (fun _ => Nat.zero_le 64) (State.Regroup.leave _ _ (not_not.1 member)).edited

/-- The members of a group leave it one after the other (R112). -/
theorem State.leaveEach_regroups (g : Nat) (slots : List Nat) (s : State) (members : (s.group g).members = slots) :
    s.Regroups (s.leaveEach g slots) := by
  induction slots generalizing s with
  | nil => exact .nil s
  | cons slot rest ih =>
    have member : slot ∈ (s.group g).members := members ▸ List.mem_cons_self
    refine .cons s _ _ (.leave slot g member) (ih _ ?_)
    rw [s.leaveGroup_members slot g member, members, List.erase_cons_head]

theorem State.groupClear_performs (args : List Byte) : s.Performs c (s.groupClear args) := by
  unfold State.groupClear
  dsimp only
  split
  next => exact .refused .badArgument ResultCode.noConfusion
  next =>
    exact .performed _ _ (fun _ => (by decide : 1 ≤ 64)) ⟨s, .same, State.leaveEach_regroups _ _ s rfl⟩

theorem State.groupOpen_performs (args : List Byte) : s.Performs c (s.groupOpen args) := by
  unfold State.groupOpen
  dsimp only
  split
  next => exact .refused .badArgument ResultCode.noConfusion
  next => exact (State.Edit.opens _ _).performs [] (Nat.zero_le 64)

end Sys2Proof.Machine

/-! PROOF. The commands that read report within the result buffer's 64 bytes and change nothing (R170, R175 to R178, R86,
R114, R185, R186, R194). -/

namespace Sys2Proof.Machine

variable {s : State} {slot : Nat} {rd : Record} {c : Instr}

/-- A report of a payload that fits leaves the roster as it is. -/
theorem State.performs_report (payload : List Byte) (short : s.CapacityLaw → payload.length ≤ 64) :
    s.Performs c (done payload, s) :=
  .performed payload s short State.Edit.same.edited

/-- A record image has at most 33 bytes (R208). -/
theorem recordImage_length (slot : Nat) (few : rd.groups.length ≤ 4) (short : rd.label.length ≤ 12) :
    (recordImage slot rd).length ≤ 33 := by
  simp only [recordImage, groupListBytes, labelBytes, uidBytes, be16, List.length_append, List.length_cons,
    List.length_map, List.length_nil]
  omega

theorem State.CapacityLaw.image (law : s.CapacityLaw) (record : s.recordAt slot = some rd) :
    (recordImage slot rd).length ≤ 33 :=
  recordImage_length slot (law.record record).1 (law.record record).2

/-- A report of items of one size is as long as they are many. -/
theorem length_flatMap_of_size {α : Type} (f : α → List Byte) (n : Nat) (size : ∀ x, (f x).length = n) (l : List α) :
    (l.flatMap f).length = l.length * n := by
  induction l with
  | nil => simp
  | cons x rest ih => simp [List.flatMap_cons, size, ih, Nat.succ_mul, Nat.add_comm]

theorem State.readEntry_performs (args : List Byte) : s.Performs c (s.readEntry args, s) := by
  unfold State.readEntry
  dsimp only
  split
  next => exact .refused .badArgument ResultCode.noConfusion
  next =>
    split
    next => exact .refused .notFound ResultCode.noConfusion
    next rd record => exact State.performs_report _ fun law => (law.image record).trans (by decide)

theorem State.findUidResult_performs (args : List Byte) : s.Performs c (s.findUidResult args, s) := by
  unfold State.findUidResult
  split
  next => exact .refused .badArgument ResultCode.noConfusion
  next =>
    split
    next => exact .refused .notFound ResultCode.noConfusion
    next slot rd found =>
      exact State.performs_report _ fun law => (law.image (s.findUid_some _ slot rd found).1).trans (by decide)

theorem State.findAddressResult_performs (args : List Byte) : s.Performs c (s.findAddressResult args, s) := by
  unfold State.findAddressResult
  dsimp only
  split
  next => exact .refused .badArgument ResultCode.noConfusion
  next =>
    split
    next slot rd found =>
      refine State.performs_report _ fun law => ?_
      have := law.image (s.findAddr_some _ slot rd found).1
      simp only [List.length_cons]
      omega
    next =>
      split
      next => exact State.performs_report _ fun _ => (by decide : 2 ≤ 64)
      next =>
        split
        next =>
          split
          next => exact State.performs_report _ fun _ => (by decide : 10 ≤ 64)
          next => exact .refused .notFound ResultCode.noConfusion
        next => exact .refused .notFound ResultCode.noConfusion

theorem State.listResult_performs (args : List Byte) : s.Performs c (s.listResult args, s) := by
  unfold State.listResult
  dsimp only
  split
  next => exact .refused .badArgument ResultCode.noConfusion
  next good =>
    refine State.performs_report _ fun _ => ?_
    have few := List.length_take_le (natAt args 2)
      (matching (byteAt args 0) (natAt args 1) (s.ros.table.drop (natAt args 1)))
    simp only [List.length_append, List.length_cons, List.length_nil,
      length_flatMap_of_size (fun x : Nat × Record => listSummary x.1 x.2) 9 (fun _ => rfl)]
    omega

theorem State.readQueueResult_performs (args : List Byte) : s.Performs c (s.readQueueResult args, s) := by
  unfold State.readQueueResult
  dsimp only
  split
  next => exact .refused .badArgument ResultCode.noConfusion
  next =>
    refine State.performs_report _ fun _ => ?_
    have few := List.length_take_le 6 (s.ros.apq.drop (natAt args 0))
    simp only [List.length_append, List.length_cons, List.length_nil,
      length_flatMap_of_size queueItemBytes 9 (fun _ => rfl)]
    omega

theorem State.groupReadResult_performs (args : List Byte) : s.Performs c (s.groupReadResult args, s) := by
  unfold State.groupReadResult
  dsimp only
  split
  next => exact .refused .badArgument ResultCode.noConfusion
  next =>
    refine State.performs_report _ fun law => ?_
    have few := law.members (natAt args 0)
    simp only [List.length_append, List.length_cons, List.length_nil,
      length_flatMap_of_size (fun m => be16 (s.memberWordOf m)) 2 (fun _ => rfl)]
    omega

theorem State.readConfigResult_performs : s.Performs c (s.readConfigResult, s) :=
  State.performs_report _ fun _ => (by decide : 26 ≤ 64)

theorem State.readPoolResult_performs (args : List Byte) : s.Performs c (s.readPoolResult args, s) := by
  unfold State.readPoolResult
  split
  next => exact State.performs_report _ fun _ => (by decide : 3 ≤ 64)
  next =>
    split
    next =>
      refine State.performs_report _ fun _ => ?_
      have few := List.length_take_le 8 s.ros.hold
      rw [length_flatMap_of_size poolItemBytes 8 (fun _ => rfl)]
      omega
    next => exact .refused .badArgument ResultCode.noConfusion

theorem State.readCountersResult_performs : s.Performs c (s.readCountersResult, s) :=
  State.performs_report _ fun _ => (by decide : 16 ≤ 64)

end Sys2Proof.Machine

/-! PROOF. What a command can do to the part: every command's outcome is one of the cases below, and the laws that every
step keeps are proved by cases on them. -/

namespace Sys2Proof.Machine

variable (s : State)

/-- What a host transaction may leave in the command unit: what stood there, nothing, a command that passed the check, or
from IDLE the refusal of one that failed it (R171 to R173). -/
def CmdUnit.Submitted (before after : CmdUnit) : Prop :=
  after = before ∨ after = .idle ∨ (∃ code args, after = .executing code args ∧ commandOk code args = true) ∨
  before = .idle ∧ after = .ready (result .badCommand)

/-- What the command `c` can do in the state `s`. Where a case names no command, more than one has it. -/
inductive Effect : Instr → State → Prop
  | still (c : Instr) : Effect c s
  /-- A request is taken. -/
  | request (c : Instr) (t : State) (takes : s.TakesRequest t) : Effect c t
  /-- A command of the slot reads or changes the roster. -/
  | command (c : Instr) (code : Byte) (args : List Byte) (o : Result × State) (serving : Serving code args s)
      (performs : s.Performs c o) : Effect c (o.2.setCu (.ready o.1))
  /-- An expiry is served; only an approval expiry sets a notice (R64 to R67, R81). -/
  | expiry (c : Instr) (v : State) (cn : Cn) (edit : s.Edit none v) (follows : v.cn.Follows cn) : Effect c (v.setCn cn)
  /-- A pending eviction completion is served (R99). -/
  | completion (slot : Nat) (pending : slot ∈ s.completions) (t : State)
      (released : t = (match s.recordAt slot with
        | some r =>
          if r.state = .evicting then (s.setCompletions (s.completions.erase slot)).releaseRecord slot r
          else s.setCompletions (s.completions.erase slot)
        | none => s.setCompletions (s.completions.erase slot))) : Effect (.evictionCompletion slot) t
  | configure (args : List Byte) (serving : Serving 0x50 args s) :
      Effect .configure ((s.configure args).2.setCu (.ready (s.configure args).1))
  | clearCounters (args : List Byte) (serving : Serving 0x54 args s) :
      Effect .clearCounters ((s.setCn { s.cn with counters := Counters.zero }).setCu (.ready (done [])))
  | hold (args : List Byte) (serving : Serving 0x60 args s) : Effect .hold (s.hold.2.setCu (.ready s.hold.1))
  | release (args : List Byte) (serving : Serving 0x61 args s) :
      Effect .release ((s.release args).2.setCu (.ready (s.release args).1))
  | rosterClear (args : List Byte) (serving : Serving 0x62 args s) :
      Effect .rosterClear (s.rosterClear.2.setCu (.ready s.rosterClear.1))
  /-- Time passes, and nothing else happens. -/
  | time (c : Instr) (d : Nat) : Effect c (s.advance d)
  | pinReset (dt : Nat) : Effect (.pinReset dt) (s.advance dt).enterReset
  | resetRelease (dt : Nat) (strap : Bool) (inReset : s.inReset = true) :
      Effect (.resetRelease dt strap) { State.reset.started strap with pending := s.pending }
  | startUpEnd (c : Instr) (d : Nat) : Effect c { s.advance d with startUp := false }
  /-- A host transaction, or a part of one, touches the port, the command unit and the notice unit, no counter (10.1). -/
  | port (c : Instr) (d : Nat) (hp : Port) (cu : CmdUnit) (cn : Cn) (counters : cn.counters = s.cn.counters)
      (unit : s.cu.Submitted cu) : Effect c { s.advance d with hp := hp, cu := cu, cn := cn }
  | character (c : Instr) (w : CharWave) (edge : Nat) : Effect c (s.handCharacter w edge)
  | framingError (c : Instr) (w : CharWave) (edge : Nat) : Effect c (s.takeFramingError w edge)
  | gap (c : Instr) (d : Nat) : Effect c (s.advance d).truncateFrame
  | startEdge (c : Instr) (d : Nat) (w : CharWave) :
      Effect c ((s.advance d).settleSilence.setLrx
        { (s.advance d).settleSilence.lrx with chr := .start (s.advance d).settleSilence.now w, bits := [], sil := .held })
  /-- The silence measure and the character assembler are set anew (R122, R124, R125). -/
  | silence (c : Instr) (d : Nat) (chr : CharAsm) (sil : Silence) :
      Effect c ((s.advance d).setLrx { (s.advance d).lrx with chr := chr, sil := sil })
  | attempt (c : Instr) (d : Nat) (ready : s.ltx.state = .ready) : Effect c (s.advance d).startAttempt
  | abort (c : Instr) (d : Nat) (a : Attempt) (b : Bool) (sending : s.ltx.state = .sending a) :
      Effect c ((s.advance d).abortAttempt a b)
  | complete (c : Instr) (d : Nat) (a : Attempt) (sending : s.ltx.state = .sending a) :
      Effect c ((s.advance d).completeAttempt a)
  /-- A window closes or BACKOFF ends, and LTX is READY (R143, R149). -/
  | ready (c : Instr) (d : Nat) (waiting : ∀ a, s.ltx.state ≠ .sending a) :
      Effect c ((s.advance d).setLtx { (s.advance d).ltx with state := .ready })
  | cutEnd (c : Instr) (d : Nat) : Effect c ((s.advance d).setLtx { (s.advance d).ltx with tail := none })
  | deadline (c : Instr) (d i dl : Nat) (first : firstDeadline s.txq 0 = some (i, dl)) :
      Effect c ((s.advance d).setTxq (s.txq.eraseIdx i)).noteLate

variable {s}

/-! ### Commands of the slot -/

theorem State.serveCommand_effect {c : Instr} {code : Byte} {run : List Byte → State → Result × State}
    (performs : ∀ args, s.Performs c (run args s)) : Effect s c (s.serveCommand code run) := by
  rcases s.serveCommand_cases code run with idle | ⟨args, serving, served⟩
  · rw [idle]; exact .still c
  · rw [served]; exact .command c code args (run args s) serving (performs args)

/-! ### Expiries -/

theorem State.Edit.effect {c : Instr} {t : State} (edit : s.Edit none t) : Effect s c t :=
  .expiry c t t.cn edit (.refl t.cn)

theorem State.serveExpiry_effect {c : Instr} {slot : Nat} {st : RecState} {act : Record → State → State}
    (edit : ∀ r, s.recordAt slot = some r → r.state = st → r.remaining = some 0 → s.Edit none (act r s)) :
    Effect s c (s.serveExpiry slot st act) := by
  rcases s.serveExpiry_cases slot st act with idle | ⟨r, -, record, state, pending, served⟩
  · rw [idle]; exact .still c
  · rw [served]; exact (edit r record state pending).effect

/-- A lease expiry lapses the record, or with GRACE_TIME 0 releases it (R64). -/
theorem State.leaseExpiry_effect (c : Instr) (slot : Nat) {t : State} (run : execLeaseExpiry slot s = .next t) :
    Effect s c t := by
  injection run with run
  rw [← run]
  refine State.serveExpiry_effect fun r record bound pending => ?_
  split
  next => exact State.releaseRecord_edit record (by simp [bound, RecState.active]) (.inr (by simp [bound]))
  next =>
    refine .rewrite slot r { r with state := .lapsed, remaining := some s.cfg.graceTime } s.custody record
      ⟨rfl, rfl, fun shape => ?_, .inl rfl, .inl rfl, id⟩ rfl (by simp [bound]) (fun _ => .keep r.address)
      (fun _ _ n n' old _ => ?_) (.inr (by simp [bound]))
    · obtain ⟨line, fields⟩ := shape
      simp only [bound, pending] at fields
      exact ⟨line, fields.1, rfl, by simpa using fields.2⟩
    · rw [pending] at old
      cases old
      exact Nat.zero_le _

theorem State.holdDownExpiry_effect (c : Instr) (a : Nat) {t : State} (run : execHoldDownExpiry a s = .next t) :
    Effect s c t := by
  unfold execHoldDownExpiry at run
  split at run
  next => injection run with run; exact run ▸ .still c
  next =>
    split at run
    next due =>
      injection run with run
      subst run
      obtain ⟨before, i, after, split, passes, erased, -⟩ :=
        eraseP_split (expiredHold a s.ros.hold) s.ros.hold (List.any_eq_true.1 due)
      have address : i.address = a := by
        simp only [expiredHold, Bool.and_eq_true, beq_iff_eq] at passes
        exact passes.1.1
      rw [erased, ← address]
      exact (State.Edit.unhold before after i split).effect
    next => injection run with run; exact run ▸ .still c

theorem State.approvalExpiry_effect (c : Instr) (u : Uid) {t : State} (run : execApprovalExpiry u s = .next t) :
    Effect s c t := by
  unfold execApprovalExpiry at run
  split at run
  next => injection run with run; exact run ▸ .still c
  next =>
    split at run
    next =>
      injection run with run
      subst run
      exact .expiry c _ _ (.unqueue _ List.eraseP_sublist) (Cn.follows_setNotice _ .approvalExpired)
    next => injection run with run; exact run ▸ .still c

theorem State.evictionCompletion_effect (slot : Nat) {t : State} (run : execEvictionCompletion slot s = .next t) :
    Effect s (.evictionCompletion slot) t := by
  unfold execEvictionCompletion at run
  split at run
  next => injection run with run; exact run ▸ .still _
  next pending =>
    refine .completion slot (by simpa using fun absent => pending (.inr absent)) t ?_
    dsimp only at run
    have same : (s.setCompletions (s.completions.erase slot)).recordAt slot = s.recordAt slot := rfl
    rw [same] at run
    cases record : s.recordAt slot with
    | none => rw [record] at run; injection run with run; exact run.symm
    | some r =>
      rw [record] at run
      dsimp only at run ⊢
      split at run
      next state => injection run with run; rw [if_pos state]; exact run.symm
      next state => injection run with run; rw [if_neg state]; exact run.symm

/-! ### Host transactions (10.1) -/

/-- The port and the notice unit change, the counters excepted. -/
def State.PortOnly (s t : State) : Prop :=
  ∃ hp cn, t = { s with hp := hp, cn := cn } ∧ cn.counters = s.cn.counters

/-- The port, the notice unit and the command unit change, the counters excepted. -/
def State.PortAndUnit (s t : State) : Prop :=
  ∃ hp cu cn, t = { s with hp := hp, cu := cu, cn := cn } ∧ cn.counters = s.cn.counters ∧ s.cu.Submitted cu

theorem State.PortOnly.refl (s : State) : s.PortOnly s := ⟨s.hp, s.cn, rfl, rfl⟩

theorem State.PortOnly.setHp (s : State) (hp : Port) : s.PortOnly (s.setHp hp) := ⟨hp, s.cn, rfl, rfl⟩

theorem State.PortOnly.trans {t u : State} (first : s.PortOnly t) (second : t.PortOnly u) : s.PortOnly u := by
  obtain ⟨hp, cn, rfl, same⟩ := first
  obtain ⟨hp', cn', rfl, same'⟩ := second
  exact ⟨hp', cn', rfl, same'.trans same⟩

theorem State.PortOnly.andUnit {t u : State} (first : s.PortOnly t) (second : t.PortAndUnit u) : s.PortAndUnit u := by
  obtain ⟨hp, cn, rfl, same⟩ := first
  obtain ⟨hp', cu, cn', rfl, same', submitted⟩ := second
  exact ⟨hp', cu, cn', rfl, same'.trans same, submitted⟩

theorem State.PortOnly.only {t : State} (only : s.PortOnly t) : s.PortAndUnit t := by
  obtain ⟨hp, cn, rfl, same⟩ := only
  exact ⟨hp, s.cu, cn, rfl, same, .inl rfl⟩

theorem State.portSelect_only : s.PortOnly s.portSelect := by
  unfold State.portSelect
  split
  · exact .setHp s _
  · exact .refl s

theorem State.portCode_only {code : Byte} {prepare : Prepare} (rule : ∀ s : State, s.PortOnly (prepare s).2) :
    s.PortOnly (s.portCode code prepare) := by
  unfold State.portCode
  split
  next =>
    split
    · exact (rule s).trans (.setHp _ _)
    · exact .refl s
  next => exact .refl s

theorem State.portClock_only {code : Byte} {bytes : List Byte} : s.PortOnly (s.portClock code bytes) := by
  unfold State.portClock
  split
  next =>
    split
    · exact .setHp s _
    · exact .refl s
  next => exact .refl s

theorem State.portDeselect_andUnit {code : Byte} {finish : Txn → State → State}
    (rule : ∀ (t : Txn) (s : State), s.PortAndUnit (finish t s)) : s.PortAndUnit (s.portDeselect code finish) := by
  rcases s.portDeselect_cases code finish with same | ended | ⟨t, -, -, finished⟩
  · rw [same]; exact (State.PortOnly.refl s).only
  · rw [ended]; exact (State.PortOnly.setHp s _).only
  · rw [finished]; exact (State.PortOnly.setHp s _).andUnit (rule t _)

theorem State.transaction_andUnit (code : Byte) {prepare : Prepare} {finish : Txn → State → State} (phase : PortPhase)
    (prepares : ∀ s : State, s.PortOnly (prepare s).2) (finishes : ∀ (t : Txn) (s : State), s.PortAndUnit (finish t s)) :
    s.PortAndUnit (s.transaction code prepare finish phase) := by
  unfold State.transaction
  cases phase with
  | select => exact State.portSelect_only.only
  | code => exact (State.portCode_only prepares).only
  | clock bytes => exact State.portClock_only.only
  | deselect => exact State.portDeselect_andUnit finishes
  | whole bytes =>
    dsimp only
    split
    · exact ((State.portSelect_only.trans (State.portCode_only prepares)).trans State.portClock_only).andUnit
        (State.portDeselect_andUnit finishes)
    · exact (State.PortOnly.refl s).only

theorem State.transaction_effect (c : Instr) (dt : Nat) (code : Byte) {prepare : Prepare} {finish : Txn → State → State}
    (phase : PortPhase) (prepares : ∀ s : State, s.PortOnly (prepare s).2) (finishes : ∀ (t : Txn) (s : State), s.PortAndUnit (finish t s)) :
    Effect s c ((s.advance dt).transaction code prepare finish phase) := by
  obtain ⟨hp, cu, cn, made, counters, submitted⟩ :=
    State.transaction_andUnit (s := s.advance dt) code phase prepares finishes
  rw [made]
  exact .port c dt hp cu cn (by rw [counters, s.advance_cn]) (by rwa [s.advance_cu] at submitted)

/-- What leaves the state as it is prepares, or ends, a transaction of no effect. -/
theorem finishNothing_andUnit (t : Txn) (s : State) : s.PortAndUnit (finishNothing t s) := (State.PortOnly.refl s).only

theorem finishSubmit_andUnit (t : Txn) (s : State) : s.PortAndUnit (finishSubmit t s) := by
  unfold finishSubmit
  dsimp only
  split
  next => exact (State.PortOnly.refl s).only
  next =>
    unfold State.submitCommand
    split
    next idle =>
      refine ⟨_, _, s.cn, rfl, rfl, ?_⟩
      split
      next accepted =>
        refine .inr (.inr (.inl ⟨_, _, rfl, ?_⟩))
        have short : ((t.ins.drop 2).take (natAt t.ins 1)).length ≤ 48 := by
          simp only [commandOk, Bool.and_eq_true, decide_eq_true_eq] at accepted
          exact accepted.2
        rwa [List.take_of_length_le short]
      next => exact .inr (.inr (.inr ⟨idle, rfl⟩))
    next => exact ⟨_, s.cu, s.cn, rfl, rfl, .inl rfl⟩

theorem prepareFetch_only (s : State) : s.PortOnly (prepareFetch s).2 := by
  unfold prepareFetch
  split <;> exact .refl s

theorem finishFetch_andUnit (t : Txn) (s : State) : s.PortAndUnit (finishFetch t s) := by
  unfold finishFetch
  split
  · exact ⟨s.hp, .idle, s.cn, rfl, rfl, .inr (.inl rfl)⟩
  · exact (State.PortOnly.refl s).only

theorem prepareChanges_only (s : State) : s.PortOnly (prepareChanges s).2 := ⟨s.hp, _, rfl, rfl⟩

theorem finishChanges_andUnit (t : Txn) (s : State) : s.PortAndUnit (finishChanges t s) :=
  ⟨s.hp, s.cu, _, rfl, rfl, .inl rfl⟩

theorem finishConflict_andUnit (t : Txn) (s : State) : s.PortAndUnit (finishConflict t s) := by
  unfold finishConflict
  split
  · exact ⟨s.hp, s.cu, _, rfl, rfl, .inl rfl⟩
  · exact (State.PortOnly.refl s).only

end Sys2Proof.Machine

/-! PROOF. Every command has one of the effects (chapters 1 to 12), and a step has the effect of the command at the front of
the queue. -/

namespace Sys2Proof.Machine

variable {s t : State}

/-! ### The line (chapter 7) -/

/-- A character's event hands the character on, or changes nothing. -/
theorem State.receiving_effect {c : Instr} {w : CharWave} {out : Host.Outcome State Fault Refusal} (run : out = .next t)
    (cases : out = .next s ∨ ∃ edge, s.receiving w = some edge ∧
      (out = .next (s.handCharacter w edge) ∨ out = .next (s.takeFramingError w edge))) : Effect s c t := by
  rcases cases with idle | ⟨edge, -, handed | refused⟩
  · rw [idle] at run; injection run with run; exact run ▸ .still c
  · rw [handed] at run; injection run with run; exact run ▸ .character c w edge
  · rw [refused] at run; injection run with run; exact run ▸ .framingError c w edge

/-- What a character's event does, by whether the character is being received and its samples fit the event. -/
theorem State.receiving_cases (w : CharWave) (fits : Bool) (act : Nat → State)
    (known : ∀ edge, act edge = s.handCharacter w edge ∨ act edge = s.takeFramingError w edge)
    (out : Host.Outcome State Fault Refusal)
    (is : out = match s.receiving w with
      | some edge => if fits then .next (act edge) else .next s
      | none => .next s) :
    out = .next s ∨ ∃ edge, s.receiving w = some edge ∧
      (out = .next (s.handCharacter w edge) ∨ out = .next (s.takeFramingError w edge)) := by
  cases receiving : s.receiving w with
  | none => rw [receiving] at is; exact .inl is
  | some edge =>
    rw [receiving] at is
    cases fits with
    | false => exact .inl is
    | true => exact .inr ⟨edge, rfl, (known edge).imp (is.trans ∘ congrArg _) (is.trans ∘ congrArg _)⟩

theorem State.frameGapTruncation_effect (c : Instr) (run : execFrameGapTruncation s = .next t) : Effect s c t := by
  unfold execFrameGapTruncation at run
  split at run
  next =>
    split at run
    · injection run with run; exact run ▸ .still c
    · injection run with run; exact run ▸ .gap c _
  next => injection run with run; exact run ▸ .still c

theorem State.startEdge_effect (c : Instr) (e : StartEdge) (run : execStartEdge e s = .next t) : Effect s c t := by
  unfold execStartEdge at run
  split at run
  next => injection run with run; exact run ▸ .still c
  next => injection run with run; exact run ▸ .startEdge c e.dt e.wave

theorem State.falseStart_effect (c : Instr) (w : CharWave) (high : Bool) (run : execFalseStart w high s = .next t) :
    Effect s c t := by
  unfold execFalseStart at run
  split at run
  next =>
    split at run
    · injection run with run; exact run ▸ .silence c _ _ _
    · injection run with run; exact run ▸ .still c
  next => injection run with run; exact run ▸ .still c

theorem State.breakEnd_effect (c : Instr) (dt : Nat) (run : execBreakEnd dt s = .next t) : Effect s c t := by
  unfold execBreakEnd at run
  split at run
  next => injection run with run; exact run ▸ .silence c dt (s.advance dt).lrx.chr _
  next => injection run with run; exact run ▸ .still c

/-! ### The transmitter (chapter 8) -/

theorem State.txAttemptStart_effect (c : Instr) (run : execTxAttemptStart s = .next t) : Effect s c t := by
  unfold execTxAttemptStart at run
  split at run
  next instant starts =>
    split at run
    next =>
      injection run with run
      refine run ▸ .attempt c _ ?_
      unfold State.startInstant at starts
      split at starts
      next => assumption
      next => cases starts
    next => injection run with run; exact run ▸ .still c
  next => injection run with run; exact run ▸ .still c

theorem State.transmitAbort_effect (c : Instr) (b : Bool) (run : execTransmitAbort b s = .next t) : Effect s c t := by
  unfold execTransmitAbort at run
  split at run
  next a _ sending =>
    split at run
    · injection run with run; exact run ▸ .abort c _ a b sending
    · injection run with run; exact run ▸ .still c
  next => injection run with run; exact run ▸ .still c

theorem State.transmitComplete_effect (c : Instr) (run : execTransmitComplete s = .next t) : Effect s c t := by
  unfold execTransmitComplete at run
  split at run
  next a _ sending =>
    split at run
    · injection run with run; exact run ▸ .complete c _ a sending
    · injection run with run; exact run ▸ .still c
  next => injection run with run; exact run ▸ .still c

theorem State.joinWindowClose_effect (c : Instr) (run : execJoinWindowClose s = .next t) : Effect s c t := by
  unfold execJoinWindowClose at run
  split at run
  next _ window => injection run with run; exact run ▸ .ready c _ fun a sending => by rw [window] at sending; cases sending
  next => injection run with run; exact run ▸ .still c

theorem State.backoffEnd_effect (c : Instr) (run : execBackoffEnd s = .next t) : Effect s c t := by
  unfold execBackoffEnd at run
  split at run
  next _ waits _ => injection run with run; exact run ▸ .ready c _ fun a sending => by rw [waits] at sending; cases sending
  next => injection run with run; exact run ▸ .still c

theorem State.cutCharacterEnd_effect (c : Instr) (run : execCutCharacterEnd s = .next t) : Effect s c t := by
  unfold execCutCharacterEnd at run
  split at run
  next => injection run with run; exact run ▸ .cutEnd c _
  next => injection run with run; exact run ▸ .still c

theorem State.answerDeadlinePassed_effect (c : Instr) (run : execAnswerDeadlinePassed s = .next t) : Effect s c t := by
  unfold execAnswerDeadlinePassed at run
  split at run
  next i d _ first => injection run with run; exact run ▸ .deadline c _ i d first
  next => injection run with run; exact run ▸ .still c

/-! ### Clocks, reset and the mode (3.1, 8.4, 12) -/

theorem State.beaconDue_effect (c : Instr) (run : execBeaconDue s = .next t) : Effect s c t := by
  unfold execBeaconDue at run
  split at run
  next => injection run with run; exact run ▸ .time c _
  next => injection run with run; exact run ▸ .still c

theorem State.secondEvent_effect (c : Instr) (run : execSecondEvent s = .next t) : Effect s c t := by
  unfold execSecondEvent at run
  split at run
  next => injection run with run; exact run ▸ .time c _
  next => injection run with run; exact run ▸ .still c

theorem State.resetRelease_effect (dt : Nat) (strap : Bool) (run : execResetRelease dt strap s = .next t) :
    Effect s (.resetRelease dt strap) t := by
  unfold execResetRelease at run
  split at run
  next inReset => injection run with run; exact run ▸ .resetRelease dt strap inReset
  next => injection run with run; exact run ▸ .still _

theorem State.startUpEnd_effect (c : Instr) (dt : Nat) (run : execStartUpEnd dt s = .next t) : Effect s c t := by
  unfold execStartUpEnd at run
  split at run
  next => injection run with run; exact run ▸ .still c
  next => injection run with run; exact run ▸ .startUpEnd c _

/-- A command of the slot that has an effect of its own when it is served. -/
theorem State.serveCommand_own {c : Instr} {code : Byte} {run : List Byte → State → Result × State}
    (own : ∀ args, Serving code args s → Effect s c ((run args s).2.setCu (.ready (run args s).1))) :
    Effect s c (s.serveCommand code run) := by
  rcases s.serveCommand_cases code run with idle | ⟨args, serving, served⟩
  · rw [idle]; exact .still c
  · rw [served]; exact own args serving

/-- A life-cycle request is served whatever its source. -/
theorem ServesKind.ofRunning {kind : Byte → Bool} {serve : Request → State → State}
    (serves : ∀ (r : Request) (s : State), s.ctl.mode = .running → s.Serves r (serve r s)) : ServesKind kind serve :=
  fun r s _ running _ => serves r s running

/-! ### Every command -/

/-- Every command has one of the effects. -/
theorem exec_effect {c : Instr} (run : Runs c s t) : Effect s c t := by
  have taken {kind : Byte → Bool} {serve : Request → State → State} {b : Bool} (owner : ServesKind kind serve)
      (run : Host.Outcome.next (s.takeRequest kind b serve) = (.next t : Host.Outcome State Fault Refusal)) :
      Effect s c t := by
    injection run with run
    exact run ▸ .request c _ (State.takeRequest_takes b owner s)
  have served {code : Byte} {perform : List Byte → State → Result × State}
      (performs : ∀ args, s.Performs c (perform args s))
      (run : Host.Outcome.next (s.serveCommand code perform) = (.next t : Host.Outcome State Fault Refusal)) :
      Effect s c t := by
    injection run with run
    exact run ▸ State.serveCommand_effect performs
  have transacted {dt : Nat} {code : Byte} {prepare : Prepare} {finish : Txn → State → State} {phase : PortPhase}
      (prepares : ∀ s : State, s.PortOnly (prepare s).2) (finishes : ∀ (t : Txn) (s : State), s.PortAndUnit (finish t s))
      (run : Host.Outcome.next ((s.advance dt).transaction code prepare finish phase) =
        (.next t : Host.Outcome State Fault Refusal)) : Effect s c t := by
    injection run with run
    exact run ▸ State.transaction_effect c dt code phase prepares finishes
  have received {w : CharWave} {fits : Bool} {act : Nat → State}
      (known : ∀ edge, act edge = s.handCharacter w edge ∨ act edge = s.takeFramingError w edge)
      (run : (match s.receiving w with
        | some edge => if fits then .next (act edge) else .next s
        | none => .next s) = (.next t : Host.Outcome State Fault Refusal)) : Effect s c t :=
    State.receiving_effect run (State.receiving_cases w fits act known _ rfl)
  have expires {slot : Nat} {st : RecState} (active : st.active = true) (calm : st ≠ .evicting)
      (run : Host.Outcome.next (s.serveExpiry slot st fun r s => s.releaseRecord slot r) =
        (.next t : Host.Outcome State Fault Refusal)) : Effect s c t := by
    injection run with run
    exact run ▸ State.serveExpiry_effect fun r record state _ =>
      State.releaseRecord_edit record (state ▸ active) (.inr (state ▸ calm))
  cases c with
  | pinReset dt => injection run with run; exact run ▸ .pinReset dt
  | resetRelease dt strap => exact State.resetRelease_effect dt strap run
  | startUpEnd dt => exact State.startUpEnd_effect _ dt run
  | frameReceived w => exact received (fun _ => .inl rfl) run
  | markedCharacter w => exact received (fun _ => .inl rfl) run
  | lengthMalformed w => exact received (fun _ => .inl rfl) run
  | framingError w => exact received (fun _ => .inr rfl) run
  | frameGapTruncation => exact State.frameGapTruncation_effect _ run
  | txAttemptStart => exact State.txAttemptStart_effect _ run
  | transmitAbort b => exact State.transmitAbort_effect _ b run
  | transmitComplete => exact State.transmitComplete_effect _ run
  | joinWindowClose => exact State.joinWindowClose_effect _ run
  | backoffEnd => exact State.backoffEnd_effect _ run
  | answerDeadlinePassed => exact State.answerDeadlinePassed_effect _ run
  | beaconDue => exact State.beaconDue_effect _ run
  | secondEvent => exact State.secondEvent_effect _ run
  | leaseExpiry slot => exact State.leaseExpiry_effect _ slot run
  | graceExpiry slot => exact expires rfl RecState.noConfusion run
  | offerExpiry slot => exact expires rfl RecState.noConfusion run
  | holdDownExpiry a => exact State.holdDownExpiry_effect _ a run
  | approvalExpiry u => exact State.approvalExpiry_effect _ u run
  | evictionCompletion slot => exact State.evictionCompletion_effect slot run
  | join b => exact taken (.ofRunning fun _ _ running => State.serveJoin_serves running) run
  | confirm b => exact taken (.ofRunning fun _ _ running => State.serveConfirm_serves running) run
  | renew b => exact taken (.ofRunning fun _ _ running => State.serveRenew_serves running) run
  | leave b => exact taken (.ofRunning fun _ _ running => State.serveLeave_serves running) run
  | resolve b => exact taken (.ofRunning fun _ _ _ => State.serveResolve_serves) run
  | identify b => exact taken (.ofRunning fun _ _ _ => State.serveIdentify_serves) run
  | info b => exact taken (.ofRunning fun _ _ _ => State.serveInfo_serves) run
  | groupList b => exact taken (.ofRunning fun _ _ _ => State.serveGroupList_serves) run
  | subscribe b => exact taken (.ofCode rfl fun _ _ => State.serveSubscribe_serves) run
  | unsubscribe b => exact taken (.ofRunning fun _ _ _ => State.serveUnsubscribe_serves) run
  | unsupportedRequest b => exact taken (.ofRunning fun _ _ _ => State.serves_refuse _) run
  | status dt phase => exact transacted .refl finishNothing_andUnit run
  | submit dt phase => exact transacted .refl finishSubmit_andUnit run
  | fetch dt phase => exact transacted prepareFetch_only finishFetch_andUnit run
  | changes dt phase => exact transacted prepareChanges_only finishChanges_andUnit run
  | conflictTransaction dt phase => exact transacted .refl finishConflict_andUnit run
  | unknownTransaction dt code phase =>
    replace run : execUnknownTransaction dt code phase s = .next t := run
    unfold execUnknownTransaction at run
    split at run
    · exact transacted .refl finishNothing_andUnit run
    · injection run with run; exact run ▸ .still _
  | readEntry => exact served State.readEntry_performs run
  | findUid => exact served State.findUidResult_performs run
  | findAddress => exact served State.findAddressResult_performs run
  | list => exact served State.listResult_performs run
  | provision => exact served State.provision_performs run
  | edit => exact served State.edit_performs run
  | evict => exact served State.evict_performs run
  | delete => exact served State.deleteRecord_performs run
  | bar => exact served State.bar_performs run
  | approve => exact served (State.approve_performs rfl) run
  | deny => exact served State.deny_performs run
  | readQueue => exact served State.readQueueResult_performs run
  | groupAdd => exact served State.groupAdd_performs run
  | groupRemove => exact served State.groupRemove_performs run
  | groupClear => exact served State.groupClear_performs run
  | groupRead => exact served State.groupReadResult_performs run
  | groupOpen => exact served State.groupOpen_performs run
  | configure => injection run with run; exact run ▸ State.serveCommand_own fun args => .configure args
  | readConfig => exact served (fun _ => State.readConfigResult_performs) run
  | readPool => exact served State.readPoolResult_performs run
  | readCounters => exact served (fun _ => State.readCountersResult_performs) run
  | clearCounters => injection run with run; exact run ▸ State.serveCommand_own fun args => .clearCounters args
  | hold => injection run with run; exact run ▸ State.serveCommand_own fun args => .hold args
  | release => injection run with run; exact run ▸ State.serveCommand_own fun args => .release args
  | rosterClear => injection run with run; exact run ▸ State.serveCommand_own fun args => .rosterClear args
  | startEdge e => exact State.startEdge_effect _ e run
  | falseStart w high => exact State.falseStart_effect _ w high run
  | unmarkedCharacter w => exact received (fun _ => .inl rfl) run
  | breakEnd dt => exact State.breakEnd_effect _ dt run
  | cutCharacterEnd => exact State.cutCharacterEnd_effect _ run

/-- A step of a part that idles changes nothing; any other has the effect of the command at the front of the queue. -/
theorem step_effect (run : step s = .next t) :
    t = s ∨ ∃ c rest, s.pending = c :: rest ∧ Effect { s with pending := rest } c t := by
  unfold step at run
  split at run
  next => injection run with run; exact .inl run.symm
  next c rest queue => exact .inr ⟨c, rest, queue, exec_effect run⟩

end Sys2Proof.Machine

/-! PROOF. What the line, the transmitter and the passing of time leave alone, and from that what any effect does to the
roster: second events, an edit with slots joining or leaving groups, or the empty roster. -/

namespace Sys2Proof.Machine

variable {s t : State}

/-! ### Frames of the line's events (chapter 7) -/

/-- LRX's frame assembler, RXQ and the notice unit change; RXQ grows by a request at most, while it has room (R133). -/
def State.Assembles (s t : State) : Prop :=
  ∃ frm rxq cn, t = { s with lrx := { s.lrx with frm := frm }, rxq := rxq, cn := cn } ∧ s.cn.Follows cn ∧
    (rxq = s.rxq ∨ ∃ r, rxq = s.rxq ++ [r] ∧ s.rxq.length < 4)

theorem Cn.follows_accepted (c : Cn) :
    c.Follows { c with counters := { c.counters with accepted := bump c.counters.accepted } } :=
  c.follows_bump _ (by simp [Counters.values, bump_le])

theorem Cn.follows_overruns (c : Cn) :
    c.Follows { c with counters := { c.counters with overruns := bump c.counters.overruns } } :=
  c.follows_bump _ (by simp [Counters.values, bump_le])

theorem Cn.follows_crcErrors (c : Cn) :
    c.Follows { c with counters := { c.counters with crcErrors := bump c.counters.crcErrors } } :=
  c.follows_bump _ (by simp [Counters.values, bump_le])

theorem Cn.follows_framing (c : Cn) :
    c.Follows { c with counters := { c.counters with framing := bump c.counters.framing } } :=
  c.follows_bump _ (by simp [Counters.values, bump_le])

theorem Cn.follows_abandons (c : Cn) :
    c.Follows { c with counters := { c.counters with abandons := bump c.counters.abandons } } :=
  c.follows_bump _ (by simp [Counters.values, bump_le])

/-- A frame assembler's step that changes no queue. -/
theorem State.assembles_of_cn (frm : FrameAsm) {cn : Cn} (follows : s.cn.Follows cn) :
    s.Assembles ((s.setCn cn).setFrm frm) :=
  ⟨frm, s.rxq, cn, rfl, follows, .inl rfl⟩

theorem State.countMalformedUnless_cn (own : Bool) :
    ∃ cn, s.countMalformedUnless own = s.setCn cn ∧ s.cn.Follows cn := by
  cases own
  · exact ⟨_, rfl, Cn.follows_malformed s.cn⟩
  · exact ⟨s.cn, rfl, .refl s.cn⟩

theorem State.admitToRxq_assembles (frm : FrameAsm) (r : Request) (quiet : Bool) :
    s.Assembles ((s.setFrm frm).admitToRxq r quiet) := by
  unfold State.admitToRxq
  split
  next room =>
    cases quiet
    · exact ⟨frm, _, _, rfl, Cn.follows_accepted s.cn, .inr ⟨r, rfl, room⟩⟩
    · exact ⟨frm, _, _, rfl, .refl s.cn, .inr ⟨r, rfl, room⟩⟩
  next =>
    cases quiet
    · exact ⟨frm, _, _, rfl, (Cn.follows_overruns s.cn).trans (Cn.follows_setNotice _ .requestOverrun), .inl rfl⟩
    · exact ⟨frm, _, _, rfl, Cn.follows_setNotice s.cn .requestOverrun, .inl rfl⟩

theorem State.completeFrame_assembles (frm : FrameAsm) (a : Assembly) (quiet : Bool) (endTime : Nat) :
    s.Assembles ((s.setFrm frm).completeFrame a quiet endTime) := by
  have malformed : s.Assembles ((s.setFrm frm).countMalformedUnless quiet) := by
    cases quiet
    · exact ⟨frm, s.rxq, _, rfl, Cn.follows_malformed s.cn, .inl rfl⟩
    · exact ⟨frm, s.rxq, s.cn, rfl, .refl s.cn, .inl rfl⟩
  unfold State.completeFrame
  dsimp only
  split
  next =>
    cases quiet
    · exact ⟨frm, s.rxq, _, rfl, Cn.follows_crcErrors s.cn, .inl rfl⟩
    · exact ⟨frm, s.rxq, s.cn, rfl, .refl s.cn, .inl rfl⟩
  next =>
    split
    next => exact malformed
    next =>
      split
      next => exact malformed
      next =>
        split
        next => exact ⟨frm, s.rxq, s.cn, rfl, .refl s.cn, .inl rfl⟩
        next => exact State.admitToRxq_assembles frm _ quiet

theorem State.assembleMarked_assembles (b : Byte) : s.Assembles (s.assembleMarked b) := by
  rw [s.assembleMarked_eq]
  refine ⟨_, s.rxq, _, rfl, ?_, .inl rfl⟩
  split
  next a _ =>
    cases a.own
    · exact Cn.follows_malformed s.cn
    · exact .refl s.cn
  next => exact .refl s.cn

theorem State.assembleUnmarked_assembles (b : Byte) (endTime : Nat) : s.Assembles (s.assembleUnmarked b endTime) := by
  unfold State.assembleUnmarked
  split
  next a _ =>
    unfold State.assembleByte
    dsimp only
    split
    next =>
      obtain ⟨cn, counted, follows⟩ := State.countMalformedUnless_cn (s := s) (a.own || s.ownSpan)
      rw [counted]
      exact State.assembles_of_cn _ follows
    next =>
      generalize (if a.bytes.length = 4 then some (7 + b.toNat) else a.declared) = declared
      split
      next => exact State.completeFrame_assembles _ _ _ _
      next => exact ⟨_, s.rxq, s.cn, rfl, .refl s.cn, .inl rfl⟩
  next => exact ⟨s.lrx.frm, s.rxq, s.cn, rfl, .refl s.cn, .inl rfl⟩

/-- The line receiver, LTX's echo, RXQ and the notice unit change; RXQ grows by a request at most, while it has room. -/
def State.Receives (s t : State) : Prop :=
  ∃ lrx x rxq cn, t = { s with lrx := lrx, rxq := rxq, ltx := s.ltx.hears x s.now, cn := cn } ∧ s.cn.Follows cn ∧
    (rxq = s.rxq ∨ ∃ r, rxq = s.rxq ++ [r] ∧ s.rxq.length < 4)

theorem State.handCharacter_receives (w : CharWave) (edge : Nat) :
    ∃ d, (s.advance d).Receives (s.handCharacter w edge) := by
  refine ⟨edge + handOn s.cfg.lineRate - s.now, ?_⟩
  rw [s.handCharacter_eq]
  have handed (x : State) (assembles : (s.advance (edge + handOn s.cfg.lineRate - s.now)).Assembles x)
      (lrx : Lrx) (heard : Option (Byte × Bool)) :
      (s.advance (edge + handOn s.cfg.lineRate - s.now)).Receives
        { x with lrx := lrx, ltx := x.ltx.hears heard x.now } := by
    obtain ⟨frm, rxq, cn, rfl, follows, grown⟩ := assembles
    exact ⟨lrx, heard, rxq, cn, rfl, follows, grown⟩
  dsimp only
  split
  · exact handed _ (State.assembleMarked_assembles _) _ _
  · exact handed _ (State.assembleUnmarked_assembles _ _) _ _

theorem State.takeFramingError_receives (w : CharWave) (edge : Nat) :
    ∃ d, (s.advance d).Receives (s.takeFramingError w edge) := by
  refine ⟨edge + handOn s.cfg.lineRate - s.now, ?_⟩
  unfold State.takeFramingError
  dsimp only
  rw [State.hearEcho_eq]
  split
  · exact ⟨_, none, _, _, rfl, .refl _, .inl rfl⟩
  · exact ⟨_, none, _, _, rfl, Cn.follows_framing _, .inl rfl⟩

/-- A gap in the line touches the frame assembler and the counters. -/
theorem State.truncateFrame_frame :
    ∃ cn, s.truncateFrame = { s with lrx := { s.lrx with frm := .outside }, cn := cn } ∧ s.cn.Follows cn := by
  refine ⟨_, s.truncateFrame_eq, ?_⟩
  split
  next a _ =>
    cases a.own
    · exact Cn.follows_malformed s.cn
    · exact .refl s.cn
  next => exact .refl s.cn

/-- What a start edge settles touches the line receiver, BACKOFF and the counters. -/
theorem State.settleSilence_frame :
    ∃ lrx state cn, s.settleSilence = { s with lrx := lrx, ltx := { s.ltx with state := state }, cn := cn } ∧
      s.cn.Follows cn ∧ (state = s.ltx.state ∨ state = .ready ∧ ∀ a, s.ltx.state ≠ .sending a) := by
  cases sil : s.lrx.sil with
  | since t0 =>
    refine ⟨_, _, _, s.settleSilence_eq t0 sil, ?_, ?_⟩
    · split
      next =>
        split
        · exact Cn.follows_malformed s.cn
        · exact .refl s.cn
      next => exact .refl s.cn
    · unfold LtxState.settleBackoff
      split
      next k aborted state =>
        split
        · exact .inr ⟨rfl, fun a sending => by rw [state] at sending; cases sending⟩
        · exact .inl state.symm
      next => exact .inl rfl
  | held => exact ⟨s.lrx, s.ltx.state, s.cn, by unfold State.settleSilence; rw [sil], .refl s.cn, .inl rfl⟩
  | awaitOne last => exact ⟨s.lrx, s.ltx.state, s.cn, by unfold State.settleSilence; rw [sil], .refl s.cn, .inl rfl⟩

/-! ### Frames of the transmitter's events (chapter 8) -/

/-- TXQ, LTX, the completions and the notice unit change. -/
def State.Transmits (s t : State) : Prop :=
  ∃ txq ltx completions cn, t = { s with txq := txq, ltx := ltx, completions := completions, cn := cn } ∧
    s.cn.Follows cn

theorem State.startAttempt_transmits : s.Transmits s.startAttempt := by
  unfold State.startAttempt
  split
  next =>
    split
    · exact ⟨_, _, s.completions, s.cn, rfl, .refl s.cn⟩
    · exact ⟨s.txq, s.ltx, s.completions, s.cn, rfl, .refl s.cn⟩
  next =>
    split
    · exact ⟨s.txq, _, s.completions, s.cn, rfl, .refl s.cn⟩
    · exact ⟨s.txq, s.ltx, s.completions, s.cn, rfl, .refl s.cn⟩

theorem State.raiseCompletion_frame (e : Entry) :
    s.raiseCompletion e = s.setCompletions (match e.kind with
      | .evict slot => s.completions ++ [slot]
      | _ => s.completions) := by
  unfold State.raiseCompletion
  cases e.kind <;> rfl

theorem State.abortAttempt_transmits (a : Attempt) (b : Bool) : s.Transmits (s.abortAttempt a b) := by
  unfold State.abortAttempt
  split
  next => exact ⟨s.txq, _, s.completions, s.cn, rfl, .refl s.cn⟩
  next =>
    split
    next i e _ =>
      unfold State.abortEntry
      dsimp only
      split
      next => exact ⟨_, _, s.completions, _, rfl, (Cn.follows_late s.cn).trans (Cn.follows_setNotice _ .answerLate)⟩
      next =>
        split
        next =>
          rw [State.raiseCompletion_frame]
          exact ⟨_, _, _, _, rfl, (Cn.follows_abandons s.cn).trans (Cn.follows_setNotice _ .transmitAbandoned)⟩
        next => exact ⟨_, _, s.completions, s.cn, rfl, .refl s.cn⟩
    next => exact ⟨s.txq, _, s.completions, s.cn, rfl, .refl s.cn⟩

theorem State.completeAttempt_transmits (a : Attempt) : s.Transmits (s.completeAttempt a) := by
  unfold State.completeAttempt
  split
  next => exact ⟨s.txq, _, s.completions, s.cn, rfl, .refl s.cn⟩
  next =>
    split
    next i e _ =>
      rw [State.raiseCompletion_frame]
      exact ⟨_, _, _, s.cn, rfl, .refl s.cn⟩
    next => exact ⟨s.txq, _, s.completions, s.cn, rfl, .refl s.cn⟩

/-! ### Time -/

/-- Time lowers the roster's timers by the seconds completed, in HELD by none (R60, R62). -/
theorem State.advance_ros (d : Nat) : ∃ n, (s.advance d).ros = s.ros.lower n ∧ (s.ctl.mode = .held → n = 0) := by
  cases inReset : s.inReset
  · exact ⟨_, by rw [s.advance_eq d inReset], fun held => by rw [held]; rfl⟩
  · exact ⟨0, by rw [s.advance_inReset d inReset, Roster.lower_zero], fun _ => rfl⟩

/-! ### The roster -/

/-- Edits and group changes leave everything but the roster, the notice unit aside, as it was. -/
theorem State.Edit.frame {moved : Option Nat} (edit : s.Edit moved t) :
    t = { s with ros := t.ros, cn := t.cn } := by
  cases edit <;> rfl

theorem State.joinGroup_frame (slot g : Nat) :
    s.joinGroup slot g = { s with ros := (s.joinGroup slot g).ros, cn := (s.joinGroup slot g).cn } := by
  unfold State.joinGroup
  split <;> rfl

theorem State.Regroup.frame (regroup : s.Regroup t) : t = { s with ros := t.ros, cn := t.cn } := by
  cases regroup with
  | join slot g => exact State.joinGroup_frame slot g
  | leave slot g =>
    rw [s.leaveGroup_frame slot g]

theorem State.Regroups.frame (regroups : s.Regroups t) : t = { s with ros := t.ros, cn := t.cn } := by
  induction regroups with
  | nil s => rfl
  | cons s u v first _ ih =>
    rw [ih, first.frame]

theorem State.Edited.frame {moved : Option Nat} (edited : s.Edited moved t) : t = { s with ros := t.ros, cn := t.cn } := by
  obtain ⟨u, edit, regroups⟩ := edited
  rw [regroups.frame, edit.frame]

/-- What an effect does to the roster, and to the change bits where it edits the roster. -/
inductive RosterEffect (s : State) (c : Instr) (t : State) : Prop
  /-- Second events, none in HELD. -/
  | time (n : Nat) (lowered : t.ros = s.ros.lower n) (held : s.ctl.mode = .held → n = 0)
  /-- An edit and group changes, from a state with the same roster, configuration and mode. -/
  | edited (moved : Option Nat) (u v : State) (same : u.ros = s.ros ∧ u.cfg = s.cfg ∧ u.ctl = s.ctl)
      (edited : u.Edited moved v) (roster : t.ros = v.ros) (marks : t.cn.changes = v.cn.changes)
  /-- ROSTER CLEAR and the end of reset. -/
  | emptied (empty : t.ros = Roster.empty) (by_ : c = .rosterClear ∨ ∃ dt strap, c = .resetRelease dt strap)

theorem RosterEffect.ofTime {c : Instr} (d : Nat) (ros : t.ros = (s.advance d).ros) : RosterEffect s c t := by
  obtain ⟨n, lowered, held⟩ := State.advance_ros (s := s) d
  exact .time n (ros.trans lowered) held

theorem RosterEffect.unchanged {c : Instr} (ros : t.ros = s.ros) : RosterEffect s c t :=
  .time 0 (by rw [ros, Roster.lower_zero]) fun _ => rfl

theorem State.Receives.ros (receives : s.Receives t) : t.ros = s.ros := by
  obtain ⟨lrx, x, rxq, cn, rfl, -⟩ := receives
  rfl

theorem State.Transmits.ros (transmits : s.Transmits t) : t.ros = s.ros := by
  obtain ⟨txq, ltx, completions, cn, rfl, -⟩ := transmits
  rfl

theorem State.Serves.roster {c : Instr} {r : Request} {u : State} (same : u.ros = s.ros ∧ u.cfg = s.cfg ∧ u.ctl = s.ctl)
    (serves : u.Serves r t) : RosterEffect s c t := by
  obtain ⟨v, cn, code, payload, edited, follows, -, rfl⟩ := serves
  exact .edited none u v same edited rfl follows.1

theorem State.TakesRequest.roster {c : Instr} (takes : s.TakesRequest t) : RosterEffect s c t := by
  cases takes with
  | idle => exact .unchanged rfl
  | took r rest t taking disposes =>
    cases disposes with
    | discarded cn counted => exact .unchanged rfl
    | served t serves => exact State.Serves.roster (s := s) (u := { s with rxq := rest }) ⟨rfl, rfl, rfl⟩ serves

theorem State.Performs.roster {c : Instr} {o : Result × State} (performs : s.Performs c o) (cu : CmdUnit) :
    RosterEffect s c (o.2.setCu cu) := by
  cases performs with
  | refused x failed => exact .unchanged rfl
  | exhausted approve => exact .unchanged rfl
  | performed payload v short edited => exact .edited none s v ⟨rfl, rfl, rfl⟩ edited rfl rfl
  | offered payload v e short edited => exact .edited none s v ⟨rfl, rfl, rfl⟩ edited rfl rfl
  | evicts slot v e edit => exact .edited (some slot) s v ⟨rfl, rfl, rfl⟩ edit.edited rfl rfl

theorem State.configure_ros (args : List Byte) : (s.configure args).2.ros = s.ros := by
  unfold State.configure
  dsimp only
  split
  next => rfl
  next =>
    split
    · rfl
    · unfold State.changeRate
      dsimp only
      split <;> rfl

theorem State.hold_ros : s.hold.2.ros = s.ros := by
  unfold State.hold
  split <;> rfl

theorem State.release_ros (args : List Byte) : (s.release args).2.ros = s.ros := by
  unfold State.release
  split <;> rfl

theorem Effect.roster {c : Instr} (effect : Effect s c t) : RosterEffect s c t := by
  cases effect with
  | still => exact .unchanged rfl
  | request _ _ takes => exact takes.roster
  | command _ code args o serving performs => exact performs.roster _
  | expiry _ v cn edit follows => exact .edited none s v ⟨rfl, rfl, rfl⟩ edit.edited rfl follows.1
  | completion slot pending _ released =>
    cases record : s.recordAt slot with
    | none => rw [record] at released; exact .unchanged (by rw [released]; rfl)
    | some r =>
      rw [record] at released
      dsimp only at released
      split at released
      next state =>
        have edit := State.releaseRecord_edit (s := s.setCompletions (s.completions.erase slot)) (moved := some slot) record
          (by simp [state, RecState.active]) (.inl rfl)
        subst released
        exact .edited (some slot) (s.setCompletions (s.completions.erase slot)) _ ⟨rfl, rfl, rfl⟩ edit.edited rfl rfl
      next => exact .unchanged (by rw [released]; rfl)
  | configure args => exact .unchanged (State.configure_ros args)
  | clearCounters => exact .unchanged rfl
  | hold => exact .unchanged State.hold_ros
  | release args => exact .unchanged (State.release_ros args)
  | rosterClear => exact .emptied rfl (.inl rfl)
  | time _ d => exact .ofTime d rfl
  | pinReset dt => exact .ofTime dt rfl
  | resetRelease dt strap => exact .emptied (by cases strap <;> rfl) (.inr ⟨dt, strap, rfl⟩)
  | startUpEnd _ d => exact .ofTime d rfl
  | port _ d => exact .ofTime d rfl
  | character _ w edge =>
    obtain ⟨d, receives⟩ := State.handCharacter_receives (s := s) w edge
    exact .ofTime d receives.ros
  | framingError _ w edge =>
    obtain ⟨d, receives⟩ := State.takeFramingError_receives (s := s) w edge
    exact .ofTime d receives.ros
  | gap _ d =>
    obtain ⟨cn, truncated, -⟩ := (s.advance d).truncateFrame_frame
    exact .ofTime d (by rw [truncated])
  | startEdge _ d w =>
    obtain ⟨lrx, state, cn, settled, -⟩ := (s.advance d).settleSilence_frame
    have ros : (s.advance d).settleSilence.ros = (s.advance d).ros := by rw [settled]
    exact .ofTime d ros
  | silence _ d => exact .ofTime d rfl
  | attempt _ d => exact .ofTime d State.startAttempt_transmits.ros
  | abort _ d a b => exact .ofTime d (State.abortAttempt_transmits a b).ros
  | complete _ d a => exact .ofTime d (State.completeAttempt_transmits a).ros
  | ready _ d => exact .ofTime d rfl
  | cutEnd _ d => exact .ofTime d rfl
  | deadline _ d => exact .ofTime d rfl

end Sys2Proof.Machine

/-! PROOF. The custody law (R4, R20, R21): a record that gains an address takes it out of the free list or the hold-down
set, and one that loses its address gives it back, so that the three collections together stay a rearrangement of 1..60. -/

namespace Sys2Proof.Machine

variable {s t : State} {slot : Nat}

/-! ### Laws of the roster -/

/-- A law of the roster alone that edits, group changes, second events and the empty roster keep. -/
structure RosterLaw (L : State → Prop) : Prop where
  ofRoster : ∀ {s t : State}, t.ros = s.ros → L s → L t
  edit : ∀ {s t : State} {moved : Option Nat}, s.Edit moved t → L s → L t
  regroup : ∀ {s t : State}, s.Regroup t → L s → L t
  time : ∀ {s t : State} (n : Nat), t.ros = s.ros.lower n → L s → L t
  empty : ∀ {s : State}, s.ros = Roster.empty → L s

variable {L : State → Prop}

theorem RosterLaw.regroups (law : RosterLaw L) (regroups : s.Regroups t) (holds : L s) : L t := by
  induction regroups with
  | nil s => exact holds
  | cons s u v first _ ih => exact ih (law.regroup first holds)

/-- Every effect keeps a law of the roster. -/
theorem RosterLaw.effect (law : RosterLaw L) {c : Instr} (effect : Effect s c t) (holds : L s) : L t := by
  rcases effect.roster with ⟨n, lowered, -⟩ | ⟨moved, u, v, same, ⟨w, edit, regroups⟩, roster, -⟩ | ⟨empty, -⟩
  · exact law.time n lowered holds
  · exact law.ofRoster roster (law.regroups regroups (law.edit edit (law.ofRoster same.1 holds)))
  · exact law.empty empty

theorem RosterLaw.step (law : RosterLaw L) (run : step s = .next t) (holds : L s) : L t := by
  rcases step_effect run with rfl | ⟨c, rest, -, effect⟩
  · exact holds
  · exact law.effect effect (law.ofRoster (s := s) rfl holds)

/-! ### One slot's content replaced -/

/-- The records after one slot's content is replaced. -/
theorem State.withSlot_recordAt (s : State) (new : Option Record) (c : Custody) (apq : List ApqItem)
    (groups : List Group) (inTable : slot < s.ros.table.length) (i : Nat) :
    (s.withSlot slot new c apq groups).recordAt i = if i = slot then new else s.recordAt i := by
  show ((s.ros.table.set slot new)[i]?).join = _
  by_cases here : i = slot
  · subst here
    rw [if_pos rfl, List.getElem?_set_self inTable]
    rfl
  · rw [if_neg here, List.getElem?_set_ne (Ne.symm here)]
    rfl

/-- What the slots yield, before and after one slot's content is replaced, differs by what that slot yields. -/
theorem perm_filterMap_set {α β : Type} (f : α → Option β) (l : List α) (i : Nat) (old new : α) (stands : l[i]? = some old) :
    ((f old).toList ++ (l.set i new).filterMap f).Perm ((f new).toList ++ l.filterMap f) := by
  obtain ⟨inside, rfl⟩ := List.getElem?_eq_some_iff.1 stands
  have split : l = l.take i ++ l[i] :: l.drop (i + 1) := by
    rw [List.getElem_cons_drop, List.take_append_drop]
  have replaced : l.set i new = l.take i ++ new :: l.drop (i + 1) := List.set_eq_take_append_cons_drop ▸ if_pos inside
  have cons (x : α) (r : List α) : (x :: r).filterMap f = (f x).toList ++ r.filterMap f := by
    rw [List.filterMap_cons]
    cases f x <;> rfl
  rw [replaced, List.filterMap_append, cons]
  conv_rhs => rw [split, List.filterMap_append, cons]
  refine List.perm_append_comm_assoc _ _ _ |>.trans ?_
  refine .trans ?_ (List.perm_append_comm_assoc _ _ _).symm
  exact (List.perm_append_comm_assoc _ _ _).append_left _

/-- A slot's content, as the table holds it. -/
theorem State.getElem?_table (inTable : slot < s.ros.table.length) :
    s.ros.table[slot]? = some (s.recordAt slot) := by
  simp [State.recordAt, List.getElem?_eq_getElem inTable]

/-- The held addresses differ by that of the slot. -/
theorem State.withSlot_heldAddresses (s : State) (new : Option Record) (c : Custody) (apq : List ApqItem)
    (groups : List Group) (inTable : slot < s.ros.table.length) :
    (((s.recordAt slot).bind Record.address).toList ++
      heldAddresses (s.withSlot slot new c apq groups).ros.table).Perm
      ((new.bind Record.address).toList ++ heldAddresses s.ros.table) := by
  rw [heldAddresses_eq, heldAddresses_eq]
  exact perm_filterMap_set (fun o => o.bind Record.address) s.ros.table slot (s.recordAt slot) new (State.getElem?_table inTable)

/-! ### Custody -/

/-- The free and remembered addresses. -/
def Custody.addresses (c : Custody) : List Nat := c.1 ++ c.2.map HoldItem.address

theorem Takes.perm {a : Nat} {u : Uid} {c c' : Custody} (takes : Takes a u c c') :
    (Custody.addresses c).Perm (a :: Custody.addresses c') := by
  rcases takes with ⟨free, rfl⟩ | ⟨before, i, after, split, rfl, -, rfl⟩
  · exact (List.perm_cons_erase free).append_right _
  · simp only [Custody.addresses, split, List.map_append, List.map_cons]
    rw [← List.append_assoc, ← List.append_assoc]
    exact List.perm_middle

theorem givenUp_perm (holdTime : Nat) (u : Uid) (address : Option Nat) (c : Custody) :
    (Custody.addresses (givenUp holdTime u address c)).Perm (address.toList ++ Custody.addresses c) := by
  unfold givenUp
  split
  next a =>
    split
    · simp only [Custody.addresses, List.append_assoc, Option.toList_some]
      exact List.perm_append_comm_assoc _ _ _
    · simp only [Custody.addresses, List.map_append, List.map_cons, List.map_nil, Option.toList_some]
      rw [← List.append_assoc]
      exact List.perm_append_comm
  next => exact .refl _

/-- What custody loses the slot's record gains, and the other way round. -/
theorem Moves.perm {holdTime : Nat} {u : Uid} {c c' : Custody} {old new : Option Nat}
    (moves : Moves holdTime u c old new c') :
    (Custody.addresses c' ++ new.toList).Perm (Custody.addresses c ++ old.toList) := by
  cases moves with
  | keep a => exact .refl _
  | take a c' takes =>
    rw [Option.toList_none, List.append_nil]
    exact List.perm_append_comm.trans takes.perm.symm
  | give a =>
    rw [Option.toList_none, List.append_nil]
    exact (givenUp_perm holdTime u old c).trans List.perm_append_comm

/-- One slot's content replaced, with its address moving as custody does, keeps the custody law. -/
theorem State.withSlot_custodyLaw (law : s.CustodyLaw) {new : Option Record} {c : Custody} {apq : List ApqItem}
    {groups : List Group} {holdTime : Nat} {u : Uid} (inTable : slot < s.ros.table.length)
    (shape : ∀ r, new = some r → r.Shape)
    (moves : Moves holdTime u s.custody ((s.recordAt slot).bind Record.address) (new.bind Record.address) c) :
    (s.withSlot slot new c apq groups).CustodyLaw := by
  obtain ⟨shapes, places⟩ := law
  refine ⟨fun r mem => ?_, ?_⟩
  · obtain ⟨i, record⟩ := State.mem_occupied_iff.1 mem
    rw [s.withSlot_recordAt new c apq groups inTable] at record
    split at record
    · exact shape r record
    · exact shapes r (State.mem_occupied record)
  · have held := s.withSlot_heldAddresses new c apq groups inTable
    have custody := moves.perm
    refine .trans ?_ places
    rw [List.perm_iff_count] at held custody ⊢
    intro a
    have heldCount := held a
    have custodyCount := custody a
    simp only [List.count_append] at heldCount custodyCount
    show (Custody.addresses c ++ _).count a = (Custody.addresses s.custody ++ _).count a
    simp only [List.count_append]
    omega

/-- A record of the table has the shape of its state. -/
theorem State.CustodyLaw.shape (law : s.CustodyLaw) {r : Record} (record : s.recordAt slot = some r) : r.Shape :=
  law.1 r (State.mem_occupied record)

theorem State.Edit.custodyLaw {moved : Option Nat} (edit : s.Edit moved t) (law : s.CustodyLaw) : t.CustodyLaw := by
  cases edit with
  | same => exact law
  | refresh slot r r' record continues visible running =>
    have address : r'.address = r.address := congrArg (fun v => v.2.1) visible
    exact State.withSlot_custodyLaw (holdTime := 0) (u := 0) law (s.recordAt_lt slot r record)
      (fun x is => Option.some.inj is ▸ continues.shape (law.shape record))
      (by rw [record, Option.bind_some, Option.bind_some, address]; exact .keep r.address)
  | rewrite slot r r' c record continues groups barred address timer calm =>
    exact State.withSlot_custodyLaw law (s.recordAt_lt slot r record)
      (fun x is => Option.some.inj is ▸ continues.shape (law.shape record))
      (by rw [record]; exact address (law.shape record))
  | bar slot r r' record continues reserved barred groups address timer =>
    refine State.withSlot_custodyLaw (holdTime := s.cfg.holdTime) (u := r.uid) law (s.recordAt_lt slot r record)
      (fun x is => Option.some.inj is ▸ continues.shape (law.shape record)) ?_
    rw [record]
    simp only [Option.bind_some, address]
    exact .give r.address
  | create slot r c inTable vacant fresh unknown address =>
    exact State.withSlot_custodyLaw law inTable (fun x is => Option.some.inj is ▸ fresh.shape)
      (by rw [vacant]; exact address)
  | vacate slot r record calm =>
    refine State.withSlot_custodyLaw (holdTime := s.cfg.holdTime) (u := r.uid) law (s.recordAt_lt slot r record)
      (fun x is => by cases is) ?_
    rw [record]
    exact .give r.address
  | unqueue q fewer => exact law
  | requeue q uids running => exact law
  | queue i valid unknown unqueued room running => exact law
  | unhold before after i split =>
    refine ⟨law.1, .trans (.append_right _ ?_) law.2⟩
    show (s.ros.free ++ [i.address] ++ (before ++ after).map HoldItem.address).Perm _
    simp only [split, List.map_append, List.map_cons, List.append_assoc]
    exact (List.perm_append_comm_assoc [i.address] _ _).append_left _
  | opens g flag => exact law

/-! ### Groups and time -/

/-- A slot that joins or leaves a group changes its record's groups at most, and the groups; its change bit is set. -/
theorem State.Regroup.onSlot (regroup : s.Regroup t) :
    ∃ slot groups, (∃ r gs, s.recordAt slot = some r ∧
        t = (s.withSlot slot (some { r with groups := gs }) s.custody s.ros.apq groups).setCn (s.cn.marked slot)) ∨
      t = (s.setGroups groups).setCn (s.cn.marked slot) := by
  cases regroup with
  | join slot g r record => exact ⟨slot, _, .inl ⟨r, _, record, s.joinGroup_eq slot g r record⟩⟩
  | leave slot g =>
    cases record : s.recordAt slot with
    | none =>
      exact ⟨slot, s.ros.groups.modify g fun x => { x with members := (s.group g).members.erase slot },
        .inr (s.leaveGroup_vacant slot g record)⟩
    | some r => exact ⟨slot, _, .inl ⟨r, _, record, s.leaveGroup_eq slot g r record⟩⟩

/-- The records after second events. -/
theorem State.lower_recordAt {n : Nat} (lowered : t.ros = s.ros.lower n) (i : Nat) :
    t.recordAt i = (s.recordAt i).map (Record.lower n) := by
  simp only [State.recordAt, lowered, Roster.lower, List.getElem?_map]
  cases s.ros.table[i]? <;> rfl

theorem Record.lower_shape (n : Nat) {r : Record} (shape : r.Shape) : (r.lower n).Shape := by
  obtain ⟨line, fields⟩ := shape
  refine ⟨line, ?_⟩
  show match r.state with
    | .reserved => _
    | .offered => _
    | .bound => _
    | .lapsed => _
    | .evicting => _
    | .barred => _
  cases state : r.state <;> simp only [state] at fields ⊢ <;> simpa [Record.lower] using fields

theorem heldAddresses_lower (n : Nat) (table : List (Option Record)) :
    heldAddresses (table.map (Option.map (Record.lower n))) = heldAddresses table := by
  rw [heldAddresses_eq, heldAddresses_eq, List.filterMap_map]
  congr 1
  funext o
  cases o <;> rfl

theorem custodyLaw_rosterLaw : RosterLaw State.CustodyLaw where
  ofRoster ros law := by
    unfold State.CustodyLaw
    rwa [ros]
  edit := State.Edit.custodyLaw
  regroup regroup law := by
    obtain ⟨slot, groups, ⟨r, gs, record, rfl⟩ | rfl⟩ := regroup.onSlot
    · have shape := law.shape record
      exact State.withSlot_custodyLaw (holdTime := 0) (u := 0) law (State.recordAt_lt _ slot r record)
        (fun x is => by cases is; exact shape) (by rw [record]; exact .keep r.address)
    · exact law
  time {s t} n lowered law := by
    refine ⟨fun r mem => ?_, ?_⟩
    · obtain ⟨i, record⟩ := State.mem_occupied_iff.1 mem
      rw [State.lower_recordAt lowered, Option.map_eq_some_iff] at record
      obtain ⟨x, stands, rfl⟩ := record
      exact Record.lower_shape n (law.shape stands)
    · obtain ⟨table, free, -, -, hold, -⟩ := Roster.lower_fields n s.ros
      rw [lowered, free, hold, table, heldAddresses_lower]
      exact law.2
  empty {s} empty := by
    have vacant : occupied Roster.empty.table = [] := rfl
    unfold State.CustodyLaw
    rw [empty]
    exact ⟨fun r mem => (by rw [vacant] at mem; cases mem), .refl _⟩

/-- Under the custody law the three collections hold 60 addresses together (R21). -/
theorem State.CustodyLaw.sixty (law : s.CustodyLaw) :
    s.ros.free.length + s.ros.hold.length + (heldAddresses s.ros.table).length = 60 := by
  have total := law.2.length_eq
  simpa [Nat.add_assoc] using total

/-- Settles O3: custody is a law of the roster. -/
theorem custodyLawKept : Obligations.CustodyLawKept := by
  unfold Obligations.CustodyLawKept
  intro s t law run
  have kept := custodyLaw_rosterLaw.step run law
  exact ⟨kept, kept.sixty⟩

end Sys2Proof.Machine

/-! PROOF. The UID law (R6, R19): a record keeps its UID, a new one takes the UID of no other record, and the APQ item of its
UID goes as it comes. -/

namespace Sys2Proof.Machine

variable {s t : State} {slot : Nat}

/-- The UIDs of the occupied records are those of the table's slots, in slot order. -/
theorem occupied_uids (table : List (Option Record)) :
    (occupied table).map Record.uid = table.filterMap (Option.map Record.uid) := by
  rw [occupied, List.map_filterMap]
  rfl

/-- The records' UIDs differ by that of the slot whose content is replaced. -/
theorem State.withSlot_uids (s : State) (new : Option Record) (c : Custody) (apq : List ApqItem)
    (groups : List Group) (inTable : slot < s.ros.table.length) :
    (((s.recordAt slot).map Record.uid).toList ++
      (occupied (s.withSlot slot new c apq groups).ros.table).map Record.uid).Perm
      ((new.map Record.uid).toList ++ (occupied s.ros.table).map Record.uid) := by
  rw [occupied_uids, occupied_uids]
  exact perm_filterMap_set (Option.map Record.uid) s.ros.table slot (s.recordAt slot) new (State.getElem?_table inTable)

/-- The records of a table with one slot's content replaced are valid when that content is. -/
theorem State.withSlot_valid (law : s.UidLaw) {new : Option Record} {c : Custody} {apq : List ApqItem}
    {groups : List Group} (inTable : slot < s.ros.table.length) (valid : ∀ r, new = some r → validUid r.uid = true) :
    ∀ r ∈ occupied (s.withSlot slot new c apq groups).ros.table, validUid r.uid = true := by
  intro r mem
  obtain ⟨i, record⟩ := State.mem_occupied_iff.1 mem
  rw [s.withSlot_recordAt new c apq groups inTable] at record
  split at record
  · exact valid r record
  · exact law.2.1 r (State.mem_occupied record)

/-- A record replaced by one of the same UID keeps the UID law. -/
theorem State.UidLaw.withSameUid (law : s.UidLaw) {r r' : Record} {c : Custody} {groups : List Group}
    (record : s.recordAt slot = some r) (uid : r'.uid = r.uid) :
    (s.withSlot slot (some r') c s.ros.apq groups).UidLaw := by
  have inTable := s.recordAt_lt slot r record
  have uids := s.withSlot_uids (some r') c s.ros.apq groups inTable
  rw [record, Option.map_some, Option.map_some, uid] at uids
  have valid : validUid r'.uid = true := by rw [uid]; exact law.2.1 r (State.mem_occupied record)
  refine ⟨?_, State.withSlot_valid law inTable fun x is => Option.some.inj is ▸ valid, law.2.2⟩
  exact ((List.perm_append_left_iff _).1 uids |>.append_right _).nodup_iff.2 law.1

/-- When no UID stands twice in a queue, taking out the first item of a UID leaves none of it. -/
theorem notMem_eraseP_uid (u : Uid) (q : List ApqItem) (once : (q.map ApqItem.uid).Nodup) :
    u ∉ (q.eraseP fun i => i.uid == u).map ApqItem.uid := by
  induction q with
  | nil => simp
  | cons i rest ih =>
    obtain ⟨fresh, once⟩ := List.nodup_cons.1 once
    by_cases own : i.uid = u
    · rw [List.eraseP_cons_of_pos (by simp [own])]
      exact own ▸ fresh
    · rw [List.eraseP_cons_of_neg (by simp [own]), List.map_cons, List.mem_cons, not_or]
      exact ⟨Ne.symm own, ih once⟩

/-- A UID without a record is the UID of no occupied record. -/
theorem State.notMem_uids_of_unknown {u : Uid} (unknown : s.findUid u = none) :
    u ∉ (occupied s.ros.table).map Record.uid := by
  intro mem
  obtain ⟨r, occupied, rfl⟩ := List.mem_map.1 mem
  obtain ⟨i, record⟩ := State.mem_occupied_iff.1 occupied
  simpa using s.findRecord_none _ unknown i r record

/-- A UID that has an APQ item is the UID of no occupied record. -/
theorem State.UidLaw.notMem_of_queued (law : s.UidLaw) {i : ApqItem} (queued : i ∈ s.ros.apq) :
    i.uid ∉ (occupied s.ros.table).map Record.uid := fun mem =>
  (List.nodup_append.1 law.1).2.2 _ mem _ (List.mem_map_of_mem queued) rfl

theorem State.UidLaw.withCreated (law : s.UidLaw) {r : Record} {c : Custody} (inTable : slot < s.ros.table.length)
    (vacant : s.recordAt slot = none) (valid : validUid r.uid = true)
    (unknown : s.findUid r.uid = none ∨ ∃ i ∈ s.ros.apq, i.uid = r.uid) :
    (s.withSlot slot (some r) c (s.ros.apq.eraseP fun i => i.uid == r.uid) s.ros.groups).UidLaw := by
  have uids := s.withSlot_uids (some r) c (s.ros.apq.eraseP fun i => i.uid == r.uid) s.ros.groups inTable
  rw [vacant] at uids
  have unrecorded : r.uid ∉ (occupied s.ros.table).map Record.uid := by
    rcases unknown with unknown | ⟨i, queued, own⟩
    · exact State.notMem_uids_of_unknown unknown
    · exact own ▸ law.notMem_of_queued queued
  obtain ⟨records, queue, apart⟩ := List.nodup_append.1 law.1
  have fewer : ((s.ros.apq.eraseP fun i => i.uid == r.uid).map ApqItem.uid).Sublist (s.ros.apq.map ApqItem.uid) :=
    List.eraseP_sublist.map _
  refine ⟨?_, State.withSlot_valid law inTable fun x is => Option.some.inj is ▸ valid,
    fun i mem => law.2.2 i (List.mem_of_mem_eraseP mem)⟩
  refine (uids.append_right _).nodup_iff.2 ?_
  refine List.nodup_append.2 ⟨List.nodup_cons.2 ⟨unrecorded, records⟩, queue.sublist fewer, ?_⟩
  rintro u (- | ⟨-, recorded⟩) v queued rfl
  · exact notMem_eraseP_uid r.uid s.ros.apq queue queued
  · exact apart u recorded u (fewer.subset queued) rfl

theorem State.UidLaw.withVacated (law : s.UidLaw) {r : Record} {c : Custody} {groups : List Group}
    (record : s.recordAt slot = some r) : (s.withSlot slot none c s.ros.apq groups).UidLaw := by
  have inTable := s.recordAt_lt slot r record
  have uids := s.withSlot_uids none c s.ros.apq groups inTable
  rw [record] at uids
  refine ⟨?_, State.withSlot_valid law inTable fun x is => (by cases is), law.2.2⟩
  exact ((uids.append_right _).nodup_iff.2 law.1).of_cons

theorem State.Edit.uidLaw {moved : Option Nat} (edit : s.Edit moved t) (law : s.UidLaw) : t.UidLaw := by
  cases edit with
  | same => exact law
  | refresh slot r r' record continues => exact law.withSameUid record continues.uid
  | rewrite slot r r' c record continues => exact law.withSameUid record continues.uid
  | bar slot r r' record continues => exact law.withSameUid record continues.uid
  | create slot r c inTable vacant fresh unknown => exact law.withCreated inTable vacant fresh.uid unknown
  | vacate slot r record => exact law.withVacated record
  | unqueue q fewer =>
    exact ⟨law.1.sublist ((fewer.map _).append_left _), law.2.1, fun i mem => law.2.2 i (fewer.subset mem)⟩
  | requeue q uids =>
    refine ⟨?_, law.2.1, fun i mem => ?_⟩
    · show ((occupied s.ros.table).map Record.uid ++ q.map ApqItem.uid).Nodup
      rw [uids]
      exact law.1
    · have known : i.uid ∈ s.ros.apq.map ApqItem.uid := uids ▸ List.mem_map_of_mem mem
      obtain ⟨j, queued, own⟩ := List.mem_map.1 known
      exact own ▸ law.2.2 j queued
  | queue i valid unknown unqueued =>
    obtain ⟨once, records, items⟩ := law
    refine ⟨?_, records, fun j mem => ?_⟩
    · show ((occupied s.ros.table).map Record.uid ++ (s.ros.apq ++ [i]).map ApqItem.uid).Nodup
      rw [List.map_append, ← List.append_assoc]
      refine List.nodup_append.2 ⟨once, List.nodup_singleton _, ?_⟩
      rintro u mem v own rfl
      obtain rfl : u = i.uid := by simpa using own
      rcases List.mem_append.1 mem with recorded | queued
      · exact State.notMem_uids_of_unknown unknown recorded
      · obtain ⟨j, stands, same⟩ := List.mem_map.1 queued
        exact unqueued j stands same
    · rcases List.mem_append.1 mem with queued | new
      · exact items j queued
      · obtain rfl : j = i := by simpa using new
        exact valid
  | unhold => exact law
  | opens => exact law

theorem uidLaw_rosterLaw : RosterLaw State.UidLaw where
  ofRoster ros law := by
    unfold State.UidLaw
    rwa [ros]
  edit := State.Edit.uidLaw
  regroup regroup law := by
    obtain ⟨slot, groups, ⟨r, gs, record, rfl⟩ | rfl⟩ := regroup.onSlot
    · exact law.withSameUid record rfl
    · exact law
  time {s t} n lowered law := by
    obtain ⟨once, records, items⟩ := law
    have uids : (occupied t.ros.table).map Record.uid = (occupied s.ros.table).map Record.uid := by
      rw [occupied_uids, occupied_uids, lowered]
      simp only [Roster.lower, List.filterMap_map]
      congr 1
      funext o
      cases o <;> rfl
    have queue : t.ros.apq.map ApqItem.uid = s.ros.apq.map ApqItem.uid := by
      rw [lowered]
      exact (Roster.lower_fields n s.ros).2.2.2.2.2
    refine ⟨by rwa [uids, queue], fun r mem => ?_, fun i mem => ?_⟩
    · have known : r.uid ∈ (occupied s.ros.table).map Record.uid := uids ▸ List.mem_map_of_mem mem
      obtain ⟨x, stands, own⟩ := List.mem_map.1 known
      exact own ▸ records x stands
    · have known : i.uid ∈ s.ros.apq.map ApqItem.uid := queue ▸ List.mem_map_of_mem mem
      obtain ⟨x, stands, own⟩ := List.mem_map.1 known
      exact own ▸ items x stands
  empty {s} empty := by
    have vacant : occupied Roster.empty.table = [] := rfl
    unfold State.UidLaw
    rw [empty, vacant]
    exact ⟨List.nodup_nil, fun r mem => (by cases mem), fun i mem => (by cases mem)⟩

/-- Settles O4: UIDs are a law of the roster. -/
theorem uidLawKept : Obligations.UidLawKept := by
  unfold Obligations.UidLawKept
  exact fun s t law run => uidLaw_rosterLaw.step run law

end Sys2Proof.Machine

/-! PROOF. The group law (R14, R108): a slot's content and its place in the member lists change together. -/

namespace Sys2Proof.Machine

variable {s t : State} {slot : Nat}

/-- A slot's content lists a group: there is a record, not BARRED, with the group among its own. -/
def Lists (g : Nat) (o : Option Record) : Prop := ∃ r, o = some r ∧ r.state ≠ .barred ∧ g ∈ r.groups

/-- A record's groups are group numbers, none twice. -/
def Record.GroupsFit (r : Record) : Prop := r.groups.Nodup ∧ ∀ g ∈ r.groups, g < 16

theorem lists_some {g : Nat} {r : Record} : Lists g (some r) ↔ r.state ≠ .barred ∧ g ∈ r.groups :=
  ⟨fun ⟨_, is, lists⟩ => Option.some.inj is ▸ lists, fun lists => ⟨r, rfl, lists⟩⟩

theorem not_lists_none (g : Nat) : ¬ Lists g none := fun ⟨_, is, _⟩ => by cases is

theorem State.GroupLaw.member_iff (law : s.GroupLaw) {g : Nat} (known : g < 16) (i : Nat) :
    i ∈ (s.group g).members ↔ Lists g (s.recordAt i) := (law.2.1 g known).2 i

theorem State.GroupLaw.nodup (law : s.GroupLaw) {g : Nat} (known : g < 16) : (s.group g).members.Nodup :=
  (law.2.1 g known).1

theorem State.GroupLaw.fit (law : s.GroupLaw) {r : Record} (record : s.recordAt slot = some r) : r.GroupsFit :=
  law.2.2 slot r record

/-- One slot's content and the groups replaced, with no slot's membership changed but this one's, keep the group law. -/
theorem State.withSlot_groupLaw (law : s.GroupLaw) {new : Option Record} {c : Custody} {apq : List ApqItem}
    {groups : List Group} (inTable : slot < s.ros.table.length) (sixteen : groups.length = 16)
    (fits : ∀ r, new = some r → r.GroupsFit)
    (members : ∀ g < 16, (groups.getD g ⟨false, []⟩).members.Nodup ∧
      (∀ i ≠ slot, i ∈ (groups.getD g ⟨false, []⟩).members ↔ i ∈ (s.group g).members) ∧
      (slot ∈ (groups.getD g ⟨false, []⟩).members ↔ Lists g new)) :
    (s.withSlot slot new c apq groups).GroupLaw := by
  refine ⟨sixteen, fun g known => ?_, fun i r record => ?_⟩
  · obtain ⟨distinct, others, own⟩ := members g known
    refine ⟨distinct, fun i => ?_⟩
    rw [s.withSlot_recordAt new c apq groups inTable]
    split
    next here => subst here; exact own
    next elsewhere => exact (others i elsewhere).trans (law.member_iff known i)
  · rw [s.withSlot_recordAt new c apq groups inTable] at record
    split at record
    · exact fits r record
    · exact law.fit record

/-- A record that lists the same groups keeps the member lists. -/
theorem State.GroupLaw.withSameGroups (law : s.GroupLaw) {r' : Record} {c : Custody} {apq : List ApqItem}
    {old : Option Record} (inTable : slot < s.ros.table.length) (record : s.recordAt slot = old) (fits : r'.GroupsFit)
    (same : ∀ g, Lists g (some r') ↔ Lists g old) :
    (s.withSlot slot (some r') c apq s.ros.groups).GroupLaw :=
  State.withSlot_groupLaw law inTable law.1 (fun _ is => Option.some.inj is ▸ fits) fun g known =>
    ⟨law.nodup known, fun _ _ => .rfl, by rw [same, ← record]; exact law.member_iff known slot⟩

/-- A slot that leaves every member list, its new content listing no group. -/
theorem State.GroupLaw.withLeftAll (law : s.GroupLaw) {new : Option Record} {c : Custody} {apq : List ApqItem}
    (inTable : slot < s.ros.table.length) (fits : ∀ r, new = some r → r.GroupsFit) (outside : ∀ g, ¬ Lists g new) :
    (s.withSlot slot new c apq (leftAll slot s.ros.groups)).GroupLaw := by
  refine State.withSlot_groupLaw law inTable (by simpa [leftAll] using law.1) fits fun g known => ?_
  have left : ((leftAll slot s.ros.groups).getD g ⟨false, []⟩).members = (s.group g).members.erase slot := by
    have stands : g < s.ros.groups.length := law.1 ▸ known
    simp [leftAll, State.group, stands]
  rw [left]
  exact ⟨(law.nodup known).erase slot, fun i other => List.mem_erase_of_ne other,
    iff_of_false (law.nodup known).not_mem_erase (outside g)⟩

theorem State.Edit.groupLaw {moved : Option Nat} (edit : s.Edit moved t) (law : s.GroupLaw) : t.GroupLaw := by
  cases edit with
  | same => exact law
  | refresh slot r r' record continues visible =>
    have state : r'.state = r.state := congrArg (fun v => v.1) visible
    have groups : r'.groups = r.groups := congrArg (fun v => v.2.2.2.2.2.1) visible
    refine law.withSameGroups (s.recordAt_lt slot r record) record ?_ fun g => by rw [lists_some, lists_some, state, groups]
    rw [Record.GroupsFit, groups]
    exact law.fit record
  | rewrite slot r r' c record continues groups barred =>
    refine law.withSameGroups (s.recordAt_lt slot r record) record ?_ fun g => ?_
    · rw [Record.GroupsFit, groups]
      exact law.fit record
    · rw [lists_some, lists_some, groups, ne_eq, ne_eq, barred]
  | bar slot r r' record continues reserved barred groups =>
    refine law.withLeftAll (s.recordAt_lt slot r record) (fun x is => ?_) fun g lists => (lists_some.1 lists).1 barred
    rw [← Option.some.inj is, Record.GroupsFit, groups]
    exact ⟨List.nodup_nil, fun g mem => (by cases mem)⟩
  | create slot r c inTable vacant fresh =>
    refine law.withSameGroups inTable vacant ?_ fun g => iff_of_false (fun lists => ?_) (not_lists_none g)
    · rw [Record.GroupsFit, fresh.groups]
      exact ⟨List.nodup_nil, fun g mem => (by cases mem)⟩
    · have listed := (lists_some.1 lists).2
      rw [fresh.groups] at listed
      cases listed
  | vacate slot r record =>
    exact law.withLeftAll (s.recordAt_lt slot r record) (fun x is => by cases is) not_lists_none
  | unqueue | requeue | queue | unhold => exact law
  | opens g flag =>
    have members (g' : Nat) : ((s.setGroups (s.ros.groups.modify g fun x => { x with isOpen := flag })).group g').members =
        (s.group g').members := by
      simp only [State.group, State.setGroups, List.getD_eq_getElem?_getD, List.getElem?_modify]
      cases s.ros.groups[g']? with
      | none => rfl
      | some x => by_cases here : g = g' <;> simp [here]
    refine ⟨(List.length_modify _ _ _).trans law.1, fun g' known => ?_, law.2.2⟩
    rw [members]
    exact law.2.1 g' known

/-! ### Joining and leaving -/

/-- The member lists when one group's is replaced. -/
theorem State.modify_members (known : slot < s.ros.groups.length) (ms : List Nat) (g : Nat) :
    ((s.ros.groups.modify slot fun x => { x with members := ms }).getD g ⟨false, []⟩).members =
      if g = slot then ms else (s.group g).members := by
  by_cases here : slot = g
  · subst here
    simp [known]
  · simp [State.group, List.getElem?_modify_ne _ _ here, Ne.symm here]

theorem State.GroupLaw.joined (law : s.GroupLaw) {g : Nat} {r : Record} (record : s.recordAt slot = some r)
    (notBarred : r.state ≠ .barred) (known : g < 16) (outside : slot ∉ (s.group g).members ∨ g ∉ r.groups) :
    (s.joinGroup slot g).GroupLaw := by
  have member : slot ∈ (s.group g).members ↔ g ∈ r.groups := by
    rw [law.member_iff known, record, lists_some]
    exact and_iff_right notBarred
  have unlisted : g ∉ r.groups := outside.elim (mt member.2) id
  have absent : slot ∉ (s.group g).members := mt member.1 unlisted
  rw [s.joinGroup_eq slot g r record]
  refine State.withSlot_groupLaw (new := some { r with groups := r.groups ++ [g] }) (c := s.custody) (apq := s.ros.apq) law
    (s.recordAt_lt slot r record)
    ((List.length_modify _ _ _).trans law.1) (fun x is => ?_) fun g' known' => ?_
  · obtain ⟨distinct, numbers⟩ := law.fit record
    cases is
    refine ⟨?_, fun g' mem => ?_⟩
    · simpa [List.nodup_append, distinct] using fun a mem => ne_of_mem_of_not_mem mem unlisted
    · rcases List.mem_append.1 mem with old | new
      · exact numbers g' old
      · exact List.mem_singleton.1 new ▸ known
  · rw [State.modify_members (law.1 ▸ known), lists_some]
    split
    next here =>
      subst here
      refine ⟨?_, fun i other => by simp [other], by simp [notBarred]⟩
      simpa [List.nodup_append, law.nodup known] using fun a mem => ne_of_mem_of_not_mem mem absent
    next other =>
      refine ⟨law.nodup known', fun _ _ => .rfl, ?_⟩
      rw [law.member_iff known', record, lists_some]
      simp [other]

theorem State.GroupLaw.left (law : s.GroupLaw) {g : Nat} (member : slot ∈ (s.group g).members) :
    (s.leaveGroup slot g).GroupLaw := by
  have known : g < 16 := law.1 ▸ s.group_lt_of_mem g slot member
  obtain ⟨r, record, notBarred, listed⟩ := (law.member_iff known slot).1 member
  obtain ⟨distinct, numbers⟩ := law.fit record
  rw [s.leaveGroup_eq slot g r record]
  refine State.withSlot_groupLaw (new := some { r with groups := r.groups.erase g }) (c := s.custody) (apq := s.ros.apq) law
    (s.recordAt_lt slot r record)
    ((List.length_modify _ _ _).trans law.1) (fun x is => ?_) fun g' known' => ?_
  · cases is
    exact ⟨distinct.erase g, fun g' mem => numbers g' (List.mem_of_mem_erase mem)⟩
  · rw [State.modify_members (law.1 ▸ known), lists_some]
    split
    next here =>
      subst here
      exact ⟨(law.nodup known).erase slot, fun i other => List.mem_erase_of_ne other,
        iff_of_false (law.nodup known).not_mem_erase fun lists => distinct.not_mem_erase lists.2⟩
    next other =>
      refine ⟨law.nodup known', fun _ _ => .rfl, ?_⟩
      rw [law.member_iff known', record, lists_some, List.mem_erase_of_ne other]

theorem groupLaw_rosterLaw : RosterLaw State.GroupLaw where
  ofRoster ros law := by
    unfold State.GroupLaw State.group State.recordAt
    rw [ros]
    exact law
  edit := State.Edit.groupLaw
  regroup regroup law := by
    cases regroup with
    | join slot g r record notBarred known outside => exact law.joined record notBarred known outside
    | leave slot g member => exact law.left member
  time {s t} n lowered law := by
    have groups : t.ros.groups = s.ros.groups := by rw [lowered]; rfl
    refine ⟨groups ▸ law.1, fun g known => ?_, fun i r record => ?_⟩
    · have same : t.group g = s.group g := by unfold State.group; rw [groups]
      rw [same]
      refine ⟨law.nodup known, fun i => (law.member_iff known i).trans ?_⟩
      rw [State.lower_recordAt lowered]
      cases s.recordAt i with
      | none => exact iff_of_false (not_lists_none g) (not_lists_none g)
      | some r => exact lists_some.trans (lists_some (r := r.lower n)).symm
    · rw [State.lower_recordAt lowered, Option.map_eq_some_iff] at record
      obtain ⟨x, stands, rfl⟩ := record
      have fits : x.GroupsFit := law.fit stands
      exact fits
  empty {s} empty := by
    have vacant (i : Nat) : s.recordAt i = none := by
      simp only [State.recordAt, empty, Roster.empty, List.getElem?_replicate]
      split <;> rfl
    have memberless (g : Nat) : (s.group g).members = [] := by
      simp only [State.group, empty, Roster.empty, List.getD_eq_getElem?_getD, List.getElem?_replicate]
      split <;> rfl
    refine ⟨by rw [empty]; rfl, fun g known => ?_, fun i r record => ?_⟩
    · rw [memberless]
      refine ⟨List.nodup_nil, fun i => ?_⟩
      rw [vacant]
      exact iff_of_false List.not_mem_nil (not_lists_none g)
    · rw [vacant] at record
      cases record

/-- Settles O5: membership is a law of the roster. -/
theorem groupLawKept : Obligations.GroupLawKept := by
  unfold Obligations.GroupLawKept
  exact fun s t law run => groupLaw_rosterLaw.step run law

end Sys2Proof.Machine

/-! PROOF. What one command can do to one slot, and what follows for the slot's record, its timer, its address and its
change bit. -/

namespace Sys2Proof.Machine

variable {s t u : State} {i : Nat}

/-! ### One edit, one slot -/

/-- What an edit from `s` to `t` makes of slot `i`, whose content goes from the first to the second. -/
inductive SlotChange (s t : State) (i : Nat) : Option Record → Option Record → Prop
  | same (o : Option Record) : SlotChange s t i o o
  | continued (r r' : Record) (continues : r.Continues r')
      (address : r.Shape → Moves s.cfg.holdTime r.uid s.custody r.address r'.address t.custody)
      (timer : s.ctl.mode = .held → r.Shape → r.NoSooner r')
      (reported : i < 64 → r'.visible ≠ r.visible → t.cn.changes.getLsbD i = true) : SlotChange s t i (some r) (some r')
  | created (r : Record) (address : Moves s.cfg.holdTime r.uid s.custody none r.address t.custody)
      (reported : i < 64 → t.cn.changes.getLsbD i = true) : SlotChange s t i none (some r)
  | removed (r : Record) (reported : i < 64 → t.cn.changes.getLsbD i = true) : SlotChange s t i (some r) none

theorem Cn.marked_self (c : Cn) (i : Nat) (known : i < 64) : (c.marked i).changes.getLsbD i = true := by
  rw [(c.marked_bits i i known).1]
  simp

/-- A slot other than the one whose content is replaced is as it was. -/
theorem SlotChange.elsewhere {slot : Nat} {old new : Option Record} (record : s.recordAt slot = old)
    (there : t.recordAt i = if i = slot then new else s.recordAt i)
    (here : i = slot → SlotChange s t i old new) : SlotChange s t i (s.recordAt i) (t.recordAt i) := by
  rw [there]
  split
  next at_ => rw [at_, record]; exact at_ ▸ here at_
  next => exact .same _

theorem State.Edit.slotChange {moved : Option Nat} (edit : s.Edit moved t) (i : Nat) :
    SlotChange s t i (s.recordAt i) (t.recordAt i) := by
  cases edit with
  | same | unqueue | requeue | queue | unhold | opens => exact .same _
  | refresh slot r r' record continues visible running =>
    refine .elsewhere record (s.withSlot_recordAt _ _ _ _ (s.recordAt_lt slot r record) i) fun _ => ?_
    have address : r'.address = r.address := congrArg (fun v => v.2.1) visible
    exact .continued r r' continues (fun _ => address ▸ .keep _) (fun held => by rw [running] at held; cases held)
      fun _ differs => absurd visible differs
  | rewrite slot r r' c record continues groups barred address timer =>
    refine .elsewhere record (s.withSlot_recordAt _ _ _ _ (s.recordAt_lt slot r record) i) fun at_ => ?_
    exact .continued r r' continues address timer fun known _ => at_ ▸ s.cn.marked_self i known
  | bar slot r r' record continues reserved barred groups address timer =>
    refine .elsewhere record (s.withSlot_recordAt _ _ _ _ (s.recordAt_lt slot r record) i) fun at_ => ?_
    refine .continued r r' continues (fun _ => address ▸ .give _) (fun _ _ n n' old new => ?_)
      fun known _ => at_ ▸ s.cn.marked_self i known
    rw [timer, old] at new
    cases new
    exact Nat.le_refl n
  | create slot r c inTable vacant fresh unknown address =>
    refine .elsewhere vacant (s.withSlot_recordAt _ _ _ _ inTable i) fun at_ => ?_
    exact .created r address fun known => at_ ▸ s.cn.marked_self i known
  | vacate slot r record =>
    refine .elsewhere record (s.withSlot_recordAt _ _ _ _ (s.recordAt_lt slot r record) i) fun at_ => ?_
    exact .removed r fun known => at_ ▸ s.cn.marked_self i known

/-! ### Group changes, one slot -/

/-- A record without its groups. -/
def Record.ungrouped (r : Record) : Record := { r with groups := [] }

/-- Group changes leave every record as it was, its groups aside, and set the change bit of every record they touch. -/
structure State.Regrouped (s t : State) : Prop where
  records : ∀ i, (t.recordAt i).map Record.ungrouped = (s.recordAt i).map Record.ungrouped
  hold : t.ros.hold = s.ros.hold
  apq : t.ros.apq = s.ros.apq
  reported : ∀ i < 64, s.cn.changes.getLsbD i = true ∨ t.recordAt i ≠ s.recordAt i → t.cn.changes.getLsbD i = true

theorem State.Regroup.regrouped (regroup : s.Regroup t) : s.Regrouped t := by
  obtain ⟨slot, groups, ⟨r, gs, record, rfl⟩ | rfl⟩ := regroup.onSlot
  · have there (i : Nat) := s.withSlot_recordAt (some { r with groups := gs }) s.custody s.ros.apq groups
      (s.recordAt_lt slot r record) i
    refine ⟨fun i => ?_, rfl, rfl, fun i known touched => ?_⟩
    · refine (congrArg _ (there i)).trans ?_
      split
      next here => rw [here, record]; rfl
      next => rfl
    · show (s.cn.marked slot).changes.getLsbD i = true
      rw [(s.cn.marked_bits slot i known).1]
      rcases touched with already | differs
      · simp [already]
      · by_cases here : i = slot
        · simp [here]
        · exact absurd ((there i).trans (if_neg here)) differs
  · refine ⟨fun i => rfl, rfl, rfl, fun i known touched => ?_⟩
    show (s.cn.marked slot).changes.getLsbD i = true
    rw [(s.cn.marked_bits slot i known).1]
    rcases touched with already | differs
    · simp [already]
    · exact absurd rfl differs

theorem State.Regroups.regrouped (regroups : s.Regroups t) : s.Regrouped t := by
  induction regroups with
  | nil s => exact ⟨fun _ => rfl, rfl, rfl, fun i _ touched => touched.resolve_right fun differs => differs rfl⟩
  | cons s u v first _ ih =>
    have one := first.regrouped
    refine ⟨fun i => (ih.records i).trans (one.records i), ih.hold.trans one.hold, ih.apq.trans one.apq,
      fun i known touched => ih.reported i known ?_⟩
    by_cases moved : u.recordAt i = s.recordAt i
    · rw [moved]
      exact touched.imp (fun set => one.reported i known (.inl set)) id
    · exact .inl (one.reported i known (.inr moved))

/-- The record after group changes is one that stood before them, its groups aside. -/
theorem State.Regrouped.before (regrouped : s.Regrouped t) {r : Record} (record : t.recordAt i = some r) :
    ∃ r₀, s.recordAt i = some r₀ ∧ r = { r₀ with groups := r.groups } := by
  have same := regrouped.records i
  rw [record, Option.map_some, eq_comm, Option.map_eq_some_iff] at same
  obtain ⟨r₀, stands, eq⟩ := same
  exact ⟨r₀, stands, congrArg (fun x => { x with groups := r.groups }) eq.symm⟩

/-! ### Timers and addresses held in custody -/

theorem Takes.hold_subset {a : Nat} {uid : Uid} {c c' : Custody} (takes : Takes a uid c c') {j : HoldItem} (mem : j ∈ c'.2) :
    j ∈ c.2 := by
  rcases takes with ⟨-, rfl⟩ | ⟨before, x, after, split, -, -, rfl⟩
  · exact mem
  · rw [split]
    rcases List.mem_append.1 mem with first | second
    · exact List.mem_append_left _ first
    · exact List.mem_append_right _ (List.mem_cons_of_mem _ second)

/-- A hold-down item after an address moved is an old one, or new with the full HOLD_TIME. -/
theorem Moves.hold_mem {holdTime : Nat} {uid : Uid} {c c' : Custody} {old new : Option Nat}
    (moves : Moves holdTime uid c old new c') {j : HoldItem} (mem : j ∈ c'.2) : j ∈ c.2 ∨ j.remaining = holdTime := by
  cases moves with
  | keep a => exact .inl mem
  | take a c' takes => exact .inl (takes.hold_subset mem)
  | give a =>
    unfold givenUp at mem
    split at mem
    · split at mem
      · exact .inl mem
      · rcases List.mem_append.1 mem with stands | added
        · exact .inl stands
        · rw [List.mem_singleton.1 added]
          exact .inr rfl
    · exact .inl mem

theorem State.Edit.hold_mem {moved : Option Nat} (edit : s.Edit moved t) (law : s.CustodyLaw) {j : HoldItem}
    (mem : j ∈ t.ros.hold) : j ∈ s.ros.hold ∨ j.remaining = s.cfg.holdTime := by
  cases edit with
  | same | refresh | unqueue | requeue | queue | opens => exact .inl mem
  | rewrite slot r r' c record continues groups barred address => exact (address (law.shape record)).hold_mem mem
  | bar slot r r' record => exact (Moves.give (u := r.uid) (c := s.custody) r.address).hold_mem mem
  | create slot r c inTable vacant fresh unknown address => exact address.hold_mem mem
  | vacate slot r record => exact (Moves.give (u := r.uid) (c := s.custody) r.address).hold_mem mem
  | unhold before after x split =>
    refine .inl ?_
    rw [split]
    exact (List.mem_append.1 mem).elim (List.mem_append_left _) fun second =>
      List.mem_append_right _ (List.mem_cons_of_mem _ second)

theorem State.Edit.apq_sublist {moved : Option Nat} (edit : s.Edit moved t) (held : s.ctl.mode = .held) :
    t.ros.apq.Sublist s.ros.apq := by
  have stopped : s.ctl.mode ≠ .running := by rw [held]; exact Mode.noConfusion
  cases edit with
  | same | refresh | rewrite | bar | vacate | unhold | opens => exact List.Sublist.refl _
  | create => exact List.eraseP_sublist
  | unqueue q fewer => exact fewer
  | requeue q uids running => exact absurd running stopped
  | queue j valid unknown unqueued room running => exact absurd running stopped

/-! ### Custody -/

/-- Under the custody law no address stands twice in custody, and none there is held by a record (R21). -/
theorem State.CustodyLaw.apart (law : s.CustodyLaw) : (Custody.addresses s.custody).Nodup ∧
    ∀ slot r a, s.recordAt slot = some r → r.address = some a → a ∉ Custody.addresses s.custody := by
  have distinct : (Custody.addresses s.custody ++ heldAddresses s.ros.table).Nodup :=
    law.2.nodup_iff.2 List.nodup_range'
  obtain ⟨custody, -, apart⟩ := List.nodup_append.1 distinct
  refine ⟨custody, fun slot r a record holds kept => apart a kept a ?_ rfl⟩
  exact List.mem_filterMap.2 ⟨r, State.mem_occupied record, holds⟩

/-- A remembered address that is taken is taken for the UID its item remembers (R25, R26). -/
theorem Takes.remembered {a : Nat} {uid : Uid} {c c' : Custody} (takes : Takes a uid c c')
    (distinct : (Custody.addresses c).Nodup) {j : HoldItem} (mem : j ∈ c.2) (address : j.address = a) : uid = j.uid := by
  obtain ⟨-, items, apart⟩ := List.nodup_append.1 distinct
  rcases takes with ⟨free, -⟩ | ⟨before, x, after, split, same, own, -⟩
  · exact absurd address.symm (apart a free j.address (List.mem_map_of_mem mem))
  · have stands : x ∈ c.2 := split ▸ List.mem_append_right _ List.mem_cons_self
    rw [List.inj_on_of_nodup_map items mem stands (address.trans same.symm), own]

/-! ### The obligations -/

theorem State.CustodyLaw.ofRoster (law : s.CustodyLaw) (ros : u.ros = s.ros) : u.CustodyLaw :=
  custodyLaw_rosterLaw.ofRoster ros law

theorem State.recordAt_congr (ros : u.ros = s.ros) (i : Nat) : u.recordAt i = s.recordAt i := by
  unfold State.recordAt
  rw [ros]

/-- In the empty roster every slot is VACANT. -/
theorem State.recordAt_empty (empty : t.ros = Roster.empty) (i : Nat) : t.recordAt i = none := by
  simp only [State.recordAt, empty, Roster.empty, List.getElem?_replicate]
  split <;> rfl

/-- An address in hold-down that an edit gives to a record goes to the UID its item remembers. -/
theorem SlotChange.remembers {j : HoldItem} {r : Record} {o : Option Record} (law : s.CustodyLaw)
    (record : s.recordAt i = o) (change : SlotChange s t i o (some r)) (mem : j ∈ s.ros.hold)
    (holds : r.address = some j.address) : r.uid = j.uid := by
  obtain ⟨distinct, apart⟩ := law.apart
  have kept : j.address ∈ Custody.addresses s.custody := List.mem_append_right _ (List.mem_map_of_mem mem)
  cases change with
  | same => exact absurd kept (apart i r j.address record holds)
  | continued x _ continues address =>
    have moves := address (law.shape record)
    rw [holds] at moves
    generalize own : x.address = old, t.custody = c' at moves
    cases moves with
    | keep => exact absurd kept (apart i x j.address record own)
    | take _ _ takes => rw [continues.uid, takes.remembered distinct mem rfl]
  | created _ address =>
    rw [holds] at address
    generalize t.custody = c' at address
    cases address with
    | take _ _ takes => exact takes.remembered distinct mem rfl

/-- Settles O10: a record comes to hold an address only by taking it from custody. -/
theorem holdDownKeepsTheAddress : Obligations.HoldDownKeepsTheAddress := by
  unfold Obligations.HoldDownKeepsTheAddress
  intro c s t j slot r law run mem record holds
  rcases (exec_effect run).roster with ⟨n, lowered, -⟩ | ⟨moved, u, v, ⟨ros, -, -⟩, ⟨w, edit, regroups⟩, roster, -⟩ | ⟨empty, -⟩
  · rw [State.lower_recordAt lowered, Option.map_eq_some_iff] at record
    obtain ⟨x, stands, rfl⟩ := record
    exact absurd (List.mem_append_right _ (List.mem_map_of_mem mem)) (law.apart.2 slot x j.address stands holds)
  · rw [State.recordAt_congr roster] at record
    obtain ⟨x, stands, same⟩ := regroups.regrouped.before record
    rw [same] at holds ⊢
    have change : SlotChange u w slot (u.recordAt slot) (some x) := stands ▸ edit.slotChange slot
    exact change.remembers (r := x) (law.ofRoster ros) rfl (ros ▸ mem) holds
  · rw [State.recordAt_empty empty] at record
    cases record

/-- Settles O11: an edit or a group change that touches what a slot reports sets its bit; time and expiries touch timers. -/
theorem everyChangeIsMarked : Obligations.EveryChangeIsMarked := by
  unfold Obligations.EveryChangeIsMarked
  intro c s t slot known run notClear notRelease differs
  rcases (exec_effect run).roster with ⟨n, lowered, -⟩ | ⟨moved, u, v, ⟨ros, -, -⟩, ⟨w, edit, regroups⟩, roster, marks⟩ | ⟨-, by_⟩
  · rw [State.lower_recordAt lowered, Option.map_map] at differs
    exact absurd rfl differs
  · rw [marks]
    refine regroups.regrouped.reported slot known ?_
    rw [State.recordAt_congr roster, ← State.recordAt_congr ros] at differs
    by_cases touched : v.recordAt slot = w.recordAt slot
    · rw [touched] at differs
      refine .inl ?_
      have change := edit.slotChange slot
      generalize u.recordAt slot = old, w.recordAt slot = new at change differs
      cases change with
      | same => exact absurd rfl differs
      | continued r r' _ _ _ reported => exact reported known fun same => differs (by simp [same])
      | created r _ reported => exact reported known
      | removed r reported => exact reported known
    · exact .inr touched
  · rcases by_ with clear | ⟨dt, strap, release⟩
    · exact absurd clear notClear
    · exact absurd release (notRelease dt strap)

/-- A count that stays or moves on by one, up to its limit, never falls and stays within the limit. -/
theorem saturating_count {limit n n' : Nat} (moved : n' = n ∨ n' = saturate limit n) (within : n ≤ limit) :
    n ≤ n' ∧ n' ≤ limit := by
  rcases moved with rfl | rfl
  · exact ⟨Nat.le_refl _, within⟩
  · unfold saturate
    omega

/-- What stays of a record while it is continued, groups aside. -/
theorem SlotChange.identity {r r' : Record} (shape : r.Shape) (change : SlotChange s t i (some r) (some r')) :
    r'.uid = r.uid ∧ r'.origin = r.origin ∧ (∀ a b, r.address = some a → r'.address = some b → a = b) ∧
    (r'.binds = r.binds ∨ r'.binds = saturate 255 r.binds) ∧
    (r'.conflicts = r.conflicts ∨ r'.conflicts = saturate 15 r.conflicts) := by
  cases change with
  | same => exact ⟨rfl, rfl, fun a b old new => Option.some.inj (old.symm.trans new), .inl rfl, .inl rfl⟩
  | continued _ _ continues address =>
    refine ⟨continues.uid, continues.origin, fun a b old new => ?_, continues.binds, continues.conflicts⟩
    have moves := address shape
    rw [old, new] at moves
    generalize t.custody = c' at moves
    cases moves with
    | keep => rfl

/-- Settles O12: a record's successor in its slot continues it. -/
theorem recordIdentityKept : Obligations.RecordIdentityKept := by
  unfold Obligations.RecordIdentityKept
  intro c s t slot r r' law run before after
  have counts {x : Record} (binds : x.binds = r.binds ∨ x.binds = saturate 255 r.binds)
      (conflicts : x.conflicts = r.conflicts ∨ x.conflicts = saturate 15 r.conflicts) :
      (r.binds ≤ 255 → r.binds ≤ x.binds ∧ x.binds ≤ 255) ∧
      (r.conflicts ≤ 15 → r.conflicts ≤ x.conflicts ∧ x.conflicts ≤ 15) :=
    ⟨saturating_count binds, saturating_count conflicts⟩
  rcases (exec_effect run).roster with ⟨n, lowered, -⟩ | ⟨moved, u, v, ⟨ros, -, -⟩, ⟨w, edit, regroups⟩, roster, -⟩ | ⟨empty, -⟩
  · rw [State.lower_recordAt lowered, before] at after
    cases after
    exact ⟨rfl, rfl, fun a b old new => Option.some.inj (old.symm.trans new), counts (.inl rfl) (.inl rfl)⟩
  · rw [State.recordAt_congr roster] at after
    obtain ⟨x, stands, same⟩ := regroups.regrouped.before after
    have change := edit.slotChange slot
    rw [stands, State.recordAt_congr ros, before] at change
    obtain ⟨uid, origin, address, binds, conflicts⟩ := change.identity (law.shape before)
    rw [same]
    exact ⟨uid, origin, address, counts binds conflicts⟩
  · rw [State.recordAt_empty empty] at after
    cases after

theorem SlotChange.noSooner {r r' : Record} (held : s.ctl.mode = .held) (shape : r.Shape)
    (change : SlotChange s t i (some r) (some r')) : r.NoSooner r' := by
  cases change with
  | same => exact fun n n' old new => Nat.le_of_eq (Option.some.inj (old.symm.trans new))
  | continued _ _ _ _ timer => exact timer held shape

/-- Settles O13: in HELD no second event comes, and an edit starts a timer anew or lets it be. -/
theorem heldFreezesTheTimers : Obligations.HeldFreezesTheTimers := by
  unfold Obligations.HeldFreezesTheTimers
  intro c s t law held run
  rcases (exec_effect run).roster with
    ⟨n, lowered, none⟩ | ⟨moved, u, v, ⟨ros, cfg, ctl⟩, ⟨w, edit, regroups⟩, roster, -⟩ | ⟨empty, -⟩
  · rw [none held, Roster.lower_zero] at lowered
    refine ⟨fun slot r r' n n' before after old new => ?_, fun j mem => .inl (lowered ▸ mem), by rw [lowered]⟩
    rw [State.recordAt_congr lowered, before] at after
    cases after
    exact Nat.le_of_eq (Option.some.inj (old.symm.trans new))
  · have regrouped := regroups.regrouped
    have stopped : u.ctl.mode = .held := by rw [ctl, held]
    have lawful : u.CustodyLaw := law.ofRoster ros
    refine ⟨fun slot r r' n n' before after old new => ?_, fun j mem => ?_, ?_⟩
    · rw [State.recordAt_congr roster] at after
      obtain ⟨x, stands, same⟩ := regrouped.before after
      have change := edit.slotChange slot
      rw [stands, State.recordAt_congr ros, before] at change
      rw [same] at new
      exact change.noSooner stopped (law.shape before) n n' old new
    · rw [roster, regrouped.hold] at mem
      rw [← ros, ← cfg]
      exact edit.hold_mem lawful mem
    · rw [roster, regrouped.apq, ← ros]
      exact edit.apq_sublist stopped
  · rw [empty]
    refine ⟨fun slot r r' n n' before after => ?_, fun j mem => (by cases mem), List.nil_sublist _⟩
    rw [State.recordAt_empty empty] at after
    cases after

end Sys2Proof.Machine

/-! PROOF. Evictions (R96 to R100): an EVICTING record, the EVICT entry or the completion that stands for it, and the entry
LTX sends (R138) change together. -/

namespace Sys2Proof.Machine

variable {s t : State} {slot : Nat}

/-! ### What the law is about -/

/-- What the eviction law reads: whether the part is in reset, which records are EVICTING, TXQ, the pending completions and
whether LTX sends an entry. -/
structure EvictionView where
  inReset : Bool
  evicting : Nat → Bool
  txq : List Entry
  completions : List Nat
  sending : Bool

def State.evictionView (s : State) : EvictionView where
  inReset := s.inReset
  evicting i := s.evicting i
  txq := s.txq
  completions := s.completions
  sending := s.ltx.state.sendingEntry

/-- EVICT entries for a slot and pending completions for it. -/
def EvictionView.count (v : EvictionView) (slot : Nat) : Nat :=
  v.txq.countP (fun e => e.kind == .evict slot) + v.completions.count slot

/-- The eviction law out of reset. -/
structure EvictionView.Fits (v : EvictionView) : Prop where
  once : ∀ slot, v.count slot = if v.evicting slot then 1 else 0
  marked : v.txq.countP Entry.inAttempt = if v.sending then 1 else 0

theorem State.evictionLaw_iff : s.EvictionLaw ↔ (s.inReset = false → s.evictionView.Fits) :=
  ⟨fun law out => ⟨(law out).1, (law out).2⟩, fun law out => ⟨(law out).once, (law out).marked⟩⟩

theorem State.EvictionLaw.of_view (law : s.EvictionLaw) (same : t.evictionView = s.evictionView) : t.EvictionLaw := by
  have inReset : t.inReset = s.inReset := congrArg EvictionView.inReset same
  rw [State.evictionLaw_iff] at law ⊢
  rwa [same, inReset]

/-! ### Time, edits and group changes -/

theorem settleLtx_sendingEntry (rate now : Nat) (l : LtxState) : (settleLtx rate now l).sendingEntry = l.sendingEntry := by
  rcases settleLtx_cases rate now l with same | ⟨a, rfl, settled⟩
  · rw [same]
  · rw [settled]
    simp only [LtxState.sendingEntry, (settleAttempt_fields rate now a).1]

theorem State.advance_sendingEntry (d : Nat) : (s.advance d).ltx.state.sendingEntry = s.ltx.state.sendingEntry := by
  cases inReset : s.inReset
  · rw [s.advance_eq d inReset]; exact settleLtx_sendingEntry _ _ _
  · rw [s.advance_inReset d inReset]

theorem State.advance_evicting (d i : Nat) : (s.advance d).evicting i = s.evicting i := by
  obtain ⟨n, lowered, -⟩ := State.advance_ros (s := s) d
  unfold State.evicting
  rw [State.lower_recordAt lowered]
  cases s.recordAt i <;> rfl

theorem State.advance_evictionView (d : Nat) : (s.advance d).evictionView = s.evictionView := by
  simp only [State.evictionView, State.advance_inReset_field, State.advance_txq, State.advance_completions,
    State.advance_sendingEntry, State.advance_evicting]

theorem State.Edit.evicting {moved : Option Nat} (edit : s.Edit moved t) (i : Nat) (unmoved : moved ≠ some i) :
    t.evicting i = s.evicting i := by
  have replaced {slot : Nat} {old new : Option Record} (record : s.recordAt slot = old)
      (there : t.recordAt i = if i = slot then new else s.recordAt i)
      (same : i = slot → slotHas (fun r => r.state == .evicting) new = slotHas (fun r => r.state == .evicting) old) :
      t.evicting i = s.evicting i := by
    unfold State.evicting
    rw [there]
    split
    next here => rw [here, record, same here]
    next => rfl
  have kept {x y : RecState} (same : y = .evicting ↔ x = .evicting) : (y == .evicting) = (x == .evicting) := by
    rw [Bool.eq_iff_iff, beq_iff_eq, beq_iff_eq, same]
  have here {slot : Nat} (at_ : i = slot) : moved ≠ some slot := at_ ▸ unmoved
  cases edit with
  | same | unqueue | requeue | queue | unhold | opens => rfl
  | refresh slot r r' record continues visible =>
    refine replaced record (s.withSlot_recordAt _ _ _ _ (s.recordAt_lt slot r record) i) fun _ => ?_
    have state : r'.state = r.state := congrArg (fun v => v.1) visible
    exact kept (by rw [state])
  | rewrite slot r r' c record continues groups barred address timer calm =>
    exact replaced record (s.withSlot_recordAt _ _ _ _ (s.recordAt_lt slot r record) i) fun at_ =>
      kept (calm.resolve_left (here at_))
  | bar slot r r' record continues reserved barred =>
    exact replaced record (s.withSlot_recordAt _ _ _ _ (s.recordAt_lt slot r record) i) fun _ =>
      kept (by simp [reserved, barred])
  | create slot r c inTable vacant fresh =>
    exact replaced vacant (s.withSlot_recordAt _ _ _ _ inTable i) fun _ => beq_false_of_ne fresh.state
  | vacate slot r record calm =>
    exact replaced record (s.withSlot_recordAt _ _ _ _ (s.recordAt_lt slot r record) i) fun at_ =>
      (beq_false_of_ne (calm.resolve_left (here at_))).symm

theorem State.Regroups.evicting (regroups : s.Regroups t) (i : Nat) : t.evicting i = s.evicting i := by
  have ungrouped (o : Option Record) : slotHas (fun r => r.state == .evicting) o =
      slotHas (fun r => r.state == .evicting) (o.map Record.ungrouped) := by cases o <;> rfl
  unfold State.evicting
  rw [ungrouped, regroups.regrouped.records, ← ungrouped]

theorem State.Edited.evicting {moved : Option Nat} (edited : s.Edited moved t) (i : Nat) (unmoved : moved ≠ some i) :
    t.evicting i = s.evicting i := by
  obtain ⟨u, edit, regroups⟩ := edited
  rw [regroups.evicting, edit.evicting i unmoved]

/-- What an edit does to what the eviction law reads: which records are EVICTING. -/
theorem State.Edited.evictionView {moved : Option Nat} (edited : s.Edited moved t) :
    t.evictionView = { s.evictionView with evicting := fun i => t.evicting i } := by
  rw [edited.frame]
  rfl

theorem State.Edited.sameEvictions (edited : s.Edited none t) : t.evictionView = s.evictionView := by
  have same : (fun i => t.evicting i) = fun i => s.evicting i := funext fun i => edited.evicting i (by simp)
  rw [edited.evictionView, same]
  rfl

/-! ### Entries joining and leaving TXQ -/

/-- An entry is queued: an EVICT for a slot that becomes EVICTING, any other changes nothing. -/
theorem EvictionView.Fits.queued {v : EvictionView} (fits : v.Fits) {e : Entry} (unsent : e.inAttempt = false)
    {evicting : Nat → Bool}
    (once : ∀ slot, (if evicting slot then 1 else 0) =
      (if v.evicting slot then 1 else 0) + if e.kind = .evict slot then 1 else 0) :
    { v with txq := v.txq ++ [e], evicting := evicting }.Fits := by
  refine ⟨fun slot => ?_, ?_⟩
  · have before := fits.once slot
    simp only [EvictionView.count] at before
    simp only [EvictionView.count, List.countP_append, List.countP_singleton, beq_iff_eq, once, ← before]
    omega
  · simp only [List.countP_append, List.countP_singleton, unsent, fits.marked]
    rfl

/-- An entry that is no EVICT joins TXQ. -/
theorem State.EvictionLaw.enqueue (law : s.EvictionLaw) {e : Entry} (unsent : e.inAttempt = false)
    (kind : ∀ slot, e.kind ≠ .evict slot) : (s.enqueue e).EvictionLaw := by
  rw [State.evictionLaw_iff] at law ⊢
  intro out
  exact (law out).queued unsent (evicting := fun i => s.evicting i) fun slot => by
    rw [if_neg (kind slot)]
    rfl

/-- One element passes a test: those before it and those after it fail it. -/
theorem countP_one_split {α : Type} {p : α → Bool} {l : List α} (one : l.countP p = 1) :
    ∃ before x after, l = before ++ x :: after ∧ p x = true ∧ (∀ y ∈ before, p y = false) ∧ ∀ y ∈ after, p y = false := by
  obtain ⟨y, mem, passes⟩ := List.countP_pos_iff.1 (show 0 < l.countP p by omega)
  obtain ⟨x, before, after, fail, here, split, -⟩ := List.exists_of_eraseP mem passes
  have fails : ∀ y ∈ before, p y = false := by simpa using fail
  refine ⟨before, x, after, split, here, fails, ?_⟩
  have zero : before.countP p = 0 := List.countP_eq_zero.2 (by simpa using fails)
  rw [split, List.countP_append, List.countP_cons, zero, here] at one
  have : after.countP p = 0 := by simpa using one
  simpa [List.countP_eq_zero] using this

/-- While LTX sends an entry, that entry is one of TXQ and no other is marked. -/
theorem State.EvictionLaw.attempted (law : s.EvictionLaw) (out : s.inReset = false)
    (sending : s.ltx.state.sendingEntry = true) :
    ∃ before e after, s.txq = before ++ e :: after ∧ e.inAttempt = true ∧ (∀ x ∈ before, x.inAttempt = false) ∧
      (∀ x ∈ after, x.inAttempt = false) ∧ s.attemptEntry = some (before.length, e) := by
  have marked := ((State.evictionLaw_iff.1 law) out).marked
  have one : s.txq.countP Entry.inAttempt = 1 := by simpa [State.evictionView, sending] using marked
  obtain ⟨before, e, after, split, here, earlier, later⟩ := countP_one_split one
  exact ⟨before, e, after, split, here, earlier, later, s.attemptEntry_eq before after e split here earlier⟩

/-- The attempt's entry leaves TXQ, an EVICT as a completion, and LTX sends no entry any more. -/
theorem EvictionView.Fits.removed {v : EvictionView} (fits : v.Fits) {before after : List Entry} {e : Entry}
    (split : v.txq = before ++ e :: after) {completions : List Nat} {sending : Bool}
    (raised : ∀ slot, completions.count slot = v.completions.count slot + if e.kind = .evict slot then 1 else 0)
    (marked : (before ++ after).countP Entry.inAttempt = if sending then 1 else 0) :
    { v with txq := before ++ after, completions := completions, sending := sending }.Fits := by
  refine ⟨fun slot => ?_, marked⟩
  have total := fits.once slot
  simp only [EvictionView.count, split, List.countP_append, List.countP_cons, beq_iff_eq] at total
  simp only [EvictionView.count, List.countP_append, raised]
  omega

/-- The first of the earliest deadlines is that of an ANSWER not in an attempt (R141). -/
theorem firstDeadline_some (q : List Entry) (k i d : Nat) (first : firstDeadline q k = some (i, d)) :
    ∃ before e after, q = before ++ e :: after ∧ i = k + before.length ∧ e.kind = .answer d ∧ e.inAttempt = false := by
  induction q generalizing k i d with
  | nil => cases first
  | cons x rest ih =>
    have later (found : firstDeadline rest (k + 1) = some (i, d)) : ∃ before e after, x :: rest = before ++ e :: after ∧
        i = k + before.length ∧ e.kind = .answer d ∧ e.inAttempt = false := by
      obtain ⟨before, e, after, rfl, place, kind, unsent⟩ := ih (k + 1) i d found
      exact ⟨x :: before, e, after, rfl, by rw [place, List.length_cons]; omega, kind, unsent⟩
    unfold firstDeadline at first
    split at first
    next dl kind unsent =>
      have here (found : some (k, dl) = some (i, d)) : ∃ before e after, x :: rest = before ++ e :: after ∧
          i = k + before.length ∧ e.kind = .answer d ∧ e.inAttempt = false := by
        cases found
        exact ⟨[], x, rest, rfl, rfl, kind, unsent⟩
      split at first
      next j dj found =>
        split at first
        · exact later (found.trans first)
        · exact here first
      next => exact here first
    next => exact later first

/-- The place of an element is that of the list's split. -/
theorem eraseIdx_split {α : Type} (before after : List α) (x : α) :
    (before ++ x :: after).eraseIdx before.length = before ++ after := by
  rw [List.eraseIdx_append_of_length_le (Nat.le_refl _), Nat.sub_self, List.eraseIdx_cons_zero]

theorem set_split {α : Type} (before after : List α) (x y : α) :
    (before ++ x :: after).set before.length y = before ++ y :: after := by
  rw [List.set_append_right _ _ (Nat.le_refl _), Nat.sub_self, List.set_cons_zero]

/-! ### The end of an attempt -/

/-- With the attempt's entry gone, or no longer marked, none is marked. -/
theorem unmarked_countP {before after : List Entry} (earlier : ∀ x ∈ before, x.inAttempt = false)
    (later : ∀ x ∈ after, x.inAttempt = false) : (before ++ after).countP Entry.inAttempt = 0 := by
  rw [List.countP_eq_zero]
  intro x mem
  rcases List.mem_append.1 mem with first | second
  · simp [earlier x first]
  · simp [later x second]

/-- What an EVICT entry raises is one completion of its slot. -/
theorem raised_count (e : Entry) (completions : List Nat) (slot : Nat) :
    (match e.kind with
      | .evict slot => completions ++ [slot]
      | _ => completions).count slot = completions.count slot + if e.kind = .evict slot then 1 else 0 := by
  cases kind : e.kind with
  | answer d => simp
  | offer => simp
  | evict x => simp [List.count_singleton]

/-- LTX no longer sends, and it sent no entry. -/
theorem State.EvictionLaw.stopped (law : s.EvictionLaw) {ltx : Ltx} (before : s.ltx.state.sendingEntry = false)
    (after : ltx.state.sendingEntry = false) : (s.setLtx ltx).EvictionLaw :=
  law.of_view (by
    show { s.evictionView with sending := ltx.state.sendingEntry } = s.evictionView
    rw [after, ← before]
    rfl)

theorem State.EvictionLaw.completed (law : s.EvictionLaw) {a : Attempt}
    (sending : s.ltx.state.sendingEntry = (a.kind == .entry)) : (s.completeAttempt a).EvictionLaw := by
  unfold State.completeAttempt
  split
  next slots kind =>
    refine law.stopped (by rw [sending, kind]; rfl) ?_
    dsimp only
    split <;> rfl
  next kind =>
    rw [kind, beq_self_eq_true] at sending
    by_cases out : s.inReset = false
    · obtain ⟨before, e, after, split, -, earlier, later, entry⟩ := law.attempted out sending
      rw [entry]
      dsimp only
      rw [State.evictionLaw_iff, State.raiseCompletion_frame, split, eraseIdx_split]
      exact fun _ => ((State.evictionLaw_iff.1 law) out).removed (sending := false) split (raised_count e s.completions)
        (unmarked_countP earlier later)
    · rw [State.evictionLaw_iff]
      intro inside
      refine absurd ?_ out
      split at inside
      · rw [State.raiseCompletion_frame] at inside
        exact inside
      · exact inside

/-- The entry that LTX sent stays in TXQ, no longer marked. -/
theorem EvictionView.Fits.kept {v : EvictionView} (fits : v.Fits) {before after : List Entry} {e e' : Entry}
    (split : v.txq = before ++ e :: after) (kind : e'.kind = e.kind)
    (marked : (before ++ e' :: after).countP Entry.inAttempt = 0) :
    { v with txq := before ++ e' :: after, sending := false }.Fits := by
  refine ⟨fun slot => ?_, marked⟩
  have total := fits.once slot
  simp only [EvictionView.count, split, List.countP_append, List.countP_cons] at total
  simp only [EvictionView.count, List.countP_append, List.countP_cons, kind]
  exact total

theorem State.EvictionLaw.abortedEntry (law : s.EvictionLaw) (out : s.inReset = false) {before after : List Entry} {e : Entry}
    (split : s.txq = before ++ e :: after) (earlier : ∀ x ∈ before, x.inAttempt = false)
    (later : ∀ x ∈ after, x.inAttempt = false) (aborted : Nat) (b : Bool) :
    (s.abortEntry before.length e aborted b).EvictionLaw := by
  have fits := (State.evictionLaw_iff.1 law) out
  rw [State.evictionLaw_iff]
  intro _
  unfold State.abortEntry
  dsimp only
  split
  next late =>
    rw [split, eraseIdx_split]
    have answer (x : Nat) : e.kind ≠ .evict x := fun kind => by simp [Entry.expired, kind] at late
    exact fits.removed (completions := s.completions) (sending := false) split
      (fun slot => by rw [if_neg (answer slot)]; rfl) (unmarked_countP earlier later)
  next =>
    split
    · rw [State.raiseCompletion_frame, split, eraseIdx_split]
      exact fits.removed (sending := false) split (raised_count e s.completions) (unmarked_countP earlier later)
    · rw [split, set_split]
      refine fits.kept (e' := { e with attempts := e.attempts + 1, inAttempt := false }) split rfl ?_
      refine unmarked_countP earlier fun x mem => ?_
      rcases List.mem_cons.1 mem with rfl | mem
      · rfl
      · exact later x mem

theorem State.EvictionLaw.aborted (law : s.EvictionLaw) {a : Attempt} (b : Bool)
    (sending : s.ltx.state.sendingEntry = (a.kind == .entry)) : (s.abortAttempt a b).EvictionLaw := by
  by_cases out : s.inReset = false
  · unfold State.abortAttempt
    split
    next slots kind => exact law.stopped (by rw [sending, kind]; rfl) rfl
    next kind =>
      rw [kind, beq_self_eq_true] at sending
      obtain ⟨before, e, after, split, -, earlier, later, entry⟩ := law.attempted out sending
      rw [entry]
      exact law.abortedEntry out split earlier later _ b
  · rw [State.evictionLaw_iff]
    intro inside
    obtain ⟨txq, ltx, completions, cn, is, -⟩ := State.abortAttempt_transmits (s := s) a b
    rw [is] at inside
    exact absurd inside out

/-! ### The start of an attempt -/

theorem markAttempt_kinds (i : Nat) (q : List Entry) (p : EntryKind → Bool) :
    (markAttempt i q).countP (fun e => p e.kind) = q.countP fun e => p e.kind := by
  have count (l : List Entry) : l.countP (fun e => p e.kind) = (l.map Entry.kind).countP p := by
    rw [List.countP_map]; rfl
  have kinds : (markAttempt i q).map Entry.kind = q.map Entry.kind := by
    unfold markAttempt
    apply List.ext_getElem?
    intro j
    simp only [List.getElem?_map, List.getElem?_modify]
    cases q[j]? with
    | none => rfl
    | some e => by_cases here : i = j <;> simp [here]
  rw [count, count, kinds]

/-- One entry is marked where none was. -/
theorem markAttempt_marked {q : List Entry} {i : Nat} (inside : i < q.length) (none : q.countP Entry.inAttempt = 0) :
    (markAttempt i q).countP Entry.inAttempt = 1 := by
  have split : q = q.take i ++ q[i] :: q.drop (i + 1) := by rw [List.getElem_cons_drop, List.take_append_drop]
  have marks : markAttempt i q = q.take i ++ { q[i] with inAttempt := true } :: q.drop (i + 1) := by
    unfold markAttempt
    rw [List.modify_eq_set_getElem?, List.getElem?_eq_getElem inside]
    show q.set i { q[i] with inAttempt := true } = _
    rw [List.set_eq_take_append_cons_drop, if_pos inside]
  rw [split, List.countP_append, List.countP_cons] at none
  rw [marks, List.countP_append, List.countP_cons, if_pos rfl]
  omega

theorem State.EvictionLaw.started (law : s.EvictionLaw) (ready : s.ltx.state.sendingEntry = false) :
    s.startAttempt.EvictionLaw := by
  unfold State.startAttempt
  split
  next i _ =>
    split
    next e stands =>
      rw [State.evictionLaw_iff] at law ⊢
      intro out
      obtain ⟨once, marked⟩ := law out
      rw [show s.evictionView.sending = false from ready] at marked
      refine ⟨fun slot => ?_, ?_⟩
      · refine Eq.trans ?_ (once slot)
        exact congrArg (· + s.completions.count slot) (markAttempt_kinds i s.txq (· == .evict slot))
      · exact markAttempt_marked (List.getElem?_eq_some_iff.1 stands).1 marked
    next => exact law
  next =>
    split
    · exact law.stopped ready rfl
    · exact law

end Sys2Proof.Machine

/-! PROOF. Every effect keeps the eviction law. -/

namespace Sys2Proof.Machine

variable {s t : State} {slot : Nat}

theorem State.EvictionLaw.advance (law : s.EvictionLaw) (d : Nat) : (s.advance d).EvictionLaw :=
  law.of_view (s.advance_evictionView d)

/-- A change of LTX that keeps whether it sends an entry keeps what the eviction law reads. -/
theorem State.setLtx_evictionView {ltx : Ltx} (same : ltx.state.sendingEntry = s.ltx.state.sendingEntry) :
    (s.setLtx ltx).evictionView = s.evictionView := by
  show { s.evictionView with sending := ltx.state.sendingEntry } = s.evictionView
  rw [same]
  rfl

theorem Ltx.hears_sendingEntry (x : Option (Byte × Bool)) (now : Nat) (l : Ltx) :
    (l.hears x now).state.sendingEntry = l.state.sendingEntry := by
  unfold Ltx.hears
  split
  next a sending =>
    split
    · rw [sending]; rfl
    · rfl
  next => rfl

theorem Ltx.enterHeld_sendingEntry (l : Ltx) : l.enterHeld.state.sendingEntry = l.state.sendingEntry := by
  unfold Ltx.enterHeld
  split
  next state => rw [state]; rfl
  next a state =>
    split
    next kind => rw [state]; simp [LtxState.sendingEntry, kind]
    next => rw [state]
  next state => rw [state]
  next state => rw [state]

theorem State.changeRate_evictionView : s.changeRate.evictionView = s.evictionView := by
  unfold State.changeRate
  dsimp only
  split
  next a state =>
    have same : s.ltx.state.sendingEntry = (a.kind == .entry) := by rw [state]; rfl
    exact State.setLtx_evictionView (s := s.setLrx _) same.symm
  next => rfl

theorem State.configure_evictionView (args : List Byte) : (s.configure args).2.evictionView = s.evictionView := by
  unfold State.configure
  dsimp only
  split
  next => rfl
  next =>
    split
    · rfl
    · exact State.changeRate_evictionView

theorem State.hold_evictionView : s.hold.2.evictionView = s.evictionView := by
  unfold State.hold
  split
  next => rfl
  next => exact State.setLtx_evictionView (s := (s.setCtl _).setClk _) s.ltx.enterHeld_sendingEntry

theorem State.release_evictionView (args : List Byte) : (s.release args).2.evictionView = s.evictionView := by
  unfold State.release
  split <;> rfl

theorem Ltx.clear_sendingEntry (l : Ltx) : l.clear.state.sendingEntry = false := by
  unfold Ltx.clear
  split <;> rfl

/-- Nothing in TXQ, no completion and no record: the law holds while LTX sends no entry. -/
theorem State.evictionLaw_empty (txq : s.txq = []) (completions : s.completions = []) (ros : s.ros = Roster.empty)
    (quiet : s.ltx.state.sendingEntry = false) : s.EvictionLaw := by
  rw [State.evictionLaw_iff]
  refine fun _ => ⟨fun i => ?_, ?_⟩
  · have calm : s.evicting i = false := by rw [State.evicting, State.recordAt_empty ros]; rfl
    simp [EvictionView.count, State.evictionView, txq, completions, calm]
  · simp [State.evictionView, txq, quiet]

/-- A request taken and served queues an ANSWER, and moves no record into EVICTING or out of it. -/
theorem State.TakesRequest.evictionLaw (takes : s.TakesRequest t) (law : s.EvictionLaw) : t.EvictionLaw := by
  cases takes with
  | idle => exact law
  | took r rest t taking disposes =>
    cases disposes with
    | discarded cn counted => exact law.of_view rfl
    | served t serves =>
      obtain ⟨v, cn, code, payload, edited, -, -, rfl⟩ := serves
      have edits : (v.setCn cn).EvictionLaw := State.EvictionLaw.of_view (s := { s with rxq := rest }) (law.of_view rfl)
        edited.sameEvictions
      exact edits.enqueue rfl fun slot => EntryKind.noConfusion

theorem State.Performs.evictionLaw {c : Instr} {o : Result × State} (performs : s.Performs c o) (law : s.EvictionLaw) :
    o.2.EvictionLaw := by
  cases performs with
  | refused x failed => exact law
  | exhausted approve => exact law.of_view rfl
  | performed payload v short edited => exact law.of_view edited.sameEvictions
  | offered payload v e short edited room unsent kind =>
    exact (law.of_view edited.sameEvictions).enqueue unsent fun slot => by rw [kind]; exact EntryKind.noConfusion
  | evicts slot v e edit room unsent kind frame before after =>
    have edited := edit.edited.evictionView
    have view : (v.enqueue e).evictionView =
        { s.evictionView with txq := s.evictionView.txq ++ [e], evicting := fun i => v.evicting i } := by
      show { v.evictionView with txq := v.evictionView.txq ++ [e] } = _
      rw [edited]
    have inReset : (v.enqueue e).inReset = s.inReset := congrArg EvictionView.inReset view
    rw [State.evictionLaw_iff, view, inReset]
    intro out
    refine ((State.evictionLaw_iff.1 law) out).queued unsent fun i => ?_
    by_cases here : i = slot
    · subst here
      have was : s.evictionView.evicting i = false := before
      simp [kind, after, was]
    · have same := edit.evicting i (by simpa using Ne.symm here)
      have other : e.kind ≠ .evict i := by simpa [kind] using Ne.symm here
      rw [same, if_neg other]
      rfl

theorem State.releaseRecord_calm (record : s.recordAt slot = some r) : (s.releaseRecord slot r).evicting slot = false := by
  have inTable := s.recordAt_lt slot r record
  have calm {u : State} {new : Option Record} (here : u.ros.table = s.ros.table.set slot new)
      (idle : slotHas (fun r => r.state == .evicting) new = false) : u.evicting slot = false := by
    unfold State.evicting State.recordAt
    rw [here, List.getElem?_set_self inTable]
    exact idle
  unfold State.releaseRecord
  split
  · rw [State.giveUpOf_custody]; exact calm rfl rfl
  · split
    · exact calm rfl rfl
    · rw [State.giveUpOf_custody]; exact calm rfl rfl

/-- A completion that is served releases its EVICTING record, and is gone with it. -/
theorem State.EvictionLaw.released (law : s.EvictionLaw) {r : Record} (pending : slot ∈ s.completions)
    (record : s.recordAt slot = some r) (state : r.state = .evicting) :
    ((s.setCompletions (s.completions.erase slot)).releaseRecord slot r).EvictionLaw := by
  have edit := State.releaseRecord_edit (s := s.setCompletions (s.completions.erase slot)) (moved := some slot) record
    (by simp [state, RecState.active]) (.inl rfl)
  have view := edit.edited.evictionView
  rw [State.evictionLaw_iff, view]
  intro out
  have outside : s.inReset = false := (congrArg EvictionView.inReset view).symm.trans out
  obtain ⟨once, marked⟩ := (State.evictionLaw_iff.1 law) outside
  refine ⟨fun i => ?_, marked⟩
  have before : s.txq.countP (fun e => e.kind == .evict i) + s.completions.count i = if s.evicting i then 1 else 0 := once i
  have present : 0 < s.completions.count slot := List.count_pos_iff.2 pending
  show s.txq.countP (fun e => e.kind == .evict i) + (s.completions.erase slot).count i =
    if ((s.setCompletions (s.completions.erase slot)).releaseRecord slot r).evicting i then 1 else 0
  rw [List.count_erase]
  by_cases here : i = slot
  · subst here
    have evicting : s.evicting i = true := by simp [State.evicting, record, slotHas, state]
    rw [State.releaseRecord_calm (s := s.setCompletions (s.completions.erase i)) record]
    rw [evicting] at before
    simp only [beq_self_eq_true, if_true, Bool.false_eq_true, if_false] at before ⊢
    omega
  · rw [edit.evicting i (by simpa using Ne.symm here)]
    rw [if_neg (by simpa using Ne.symm here), Nat.sub_zero]
    exact before

theorem State.EvictionLaw.deadlined (law : s.EvictionLaw) {i d : Nat} (first : firstDeadline s.txq 0 = some (i, d)) :
    ((s.setTxq (s.txq.eraseIdx i)).noteLate).EvictionLaw := by
  obtain ⟨before, e, after, split, rfl, kind, unsent⟩ := firstDeadline_some s.txq 0 i d first
  rw [Nat.zero_add, split, eraseIdx_split, State.evictionLaw_iff]
  intro out
  have fits := (State.evictionLaw_iff.1 law) out
  have marked := fits.marked
  refine fits.removed (completions := s.completions) (sending := s.ltx.state.sendingEntry) split
    (fun slot => by simp [kind, State.evictionView]) ?_
  simpa [State.evictionView, split, unsent] using marked

theorem Effect.evictionLaw {c : Instr} (effect : Effect s c t) (law : s.EvictionLaw) : t.EvictionLaw := by
  cases effect with
  | still => exact law
  | request _ _ takes => exact takes.evictionLaw law
  | command _ code args o serving performs => exact (performs.evictionLaw law).of_view rfl
  | expiry _ v cn edit follows => exact law.of_view edit.edited.sameEvictions
  | completion slot pending _ released =>
    rw [released]
    by_cases out : s.inReset = false
    · have count := ((State.evictionLaw_iff.1 law) out).once slot
      have present : 0 < s.completions.count slot := List.count_pos_iff.2 pending
      have evicting : s.evicting slot = true := by
        by_contra calm
        simp only [EvictionView.count, State.evictionView, calm, if_false] at count
        omega
      cases record : s.recordAt slot with
      | none => rw [State.evicting, record] at evicting; cases evicting
      | some r =>
        have state : r.state = .evicting := by simpa [State.evicting, record, slotHas] using evicting
        dsimp only
        rw [if_pos state]
        exact law.released pending record state
    · rw [State.evictionLaw_iff]
      intro inside
      refine absurd ?_ out
      split at inside
      next r record =>
        split at inside
        next state =>
          have edit := State.releaseRecord_edit (s := s.setCompletions (s.completions.erase slot)) (moved := some slot) record
            (by simp [state, RecState.active]) (.inl rfl)
          rw [edit.frame] at inside
          exact inside
        next => exact inside
      next => exact inside
  | configure args => exact law.of_view (State.configure_evictionView args)
  | clearCounters => exact law.of_view rfl
  | hold => exact law.of_view State.hold_evictionView
  | release args => exact law.of_view (State.release_evictionView args)
  | rosterClear => exact State.evictionLaw_empty rfl rfl rfl s.ltx.clear_sendingEntry
  | time _ d => exact law.advance d
  | pinReset dt => exact fun out => by cases out
  | resetRelease dt strap => cases strap <;> exact State.evictionLaw_empty rfl rfl rfl rfl
  | startUpEnd _ d => exact (law.advance d).of_view rfl
  | port _ d => exact (law.advance d).of_view rfl
  | character _ w edge =>
    obtain ⟨d, lrx, x, rxq, cn, receives, -⟩ := State.handCharacter_receives (s := s) w edge
    rw [receives]
    exact (law.advance d).of_view (State.setLtx_evictionView (Ltx.hears_sendingEntry x _ _))
  | framingError _ w edge =>
    obtain ⟨d, lrx, x, rxq, cn, receives, -⟩ := State.takeFramingError_receives (s := s) w edge
    rw [receives]
    exact (law.advance d).of_view (State.setLtx_evictionView (Ltx.hears_sendingEntry x _ _))
  | gap _ d =>
    obtain ⟨cn, truncated, -⟩ := (s.advance d).truncateFrame_frame
    rw [truncated]
    exact (law.advance d).of_view rfl
  | startEdge _ d w =>
    obtain ⟨lrx, state, cn, settled, -, kept⟩ := (s.advance d).settleSilence_frame
    have quiet : state.sendingEntry = (s.advance d).ltx.state.sendingEntry := by
      rcases kept with rfl | ⟨rfl, idle⟩
      · rfl
      · cases ltx : (s.advance d).ltx.state with
        | sending a => exact absurd ltx (idle a)
        | _ => rfl
    refine (law.advance d).of_view ?_
    rw [settled]
    exact State.setLtx_evictionView (ltx := { (s.advance d).ltx with state := state }) quiet
  | silence _ d => exact (law.advance d).of_view rfl
  | attempt _ d ready => exact (law.advance d).started (by rw [State.advance_sendingEntry, ready]; rfl)
  | abort _ d a b sending => exact (law.advance d).aborted b (by rw [State.advance_sendingEntry, sending]; rfl)
  | complete _ d a sending => exact (law.advance d).completed (by rw [State.advance_sendingEntry, sending]; rfl)
  | ready _ d waiting =>
    refine (law.advance d).stopped ?_ rfl
    rw [State.advance_sendingEntry]
    cases ltx : s.ltx.state with
    | sending a => exact absurd ltx (waiting a)
    | _ => rfl
  | cutEnd _ d => exact (law.advance d).of_view rfl
  | deadline _ d i dl first =>
    have entries : (s.advance d).txq = s.txq := s.advance_txq d
    rw [← entries] at first ⊢
    exact (law.advance d).deadlined first

/-- Settles O6: every effect that moves a record into EVICTING queues its EVICT entry, every one that removes such an entry
raises its completion, and a completion leaves with its record's release. -/
theorem evictionLawKept : Obligations.EvictionLawKept := by
  unfold Obligations.EvictionLawKept
  intro s t law run
  rcases step_effect run with rfl | ⟨c, rest, -, effect⟩
  · exact law
  · exact effect.evictionLaw (s := { s with pending := rest }) (law.of_view rfl)

end Sys2Proof.Machine

/-! PROOF. Configuration and mode (10.6, chapter 12): what each command may change of them, and what CONFIGURE, HOLD,
RELEASE and ROSTER CLEAR do. -/

namespace Sys2Proof.Machine

variable {s t : State}

/-! ### Parameters -/

theorem policyNumber_ofNumber {v : Nat} (known : v ≤ 2) : policyNumber (policyOfNumber v) = v := by
  interval_cases v <;> rfl

/-- A parameter set to a value of its range reads back as that value, and no other parameter moves (R183). -/
theorem Params.set_values (p : Params) (n v : Nat) (fits : valueInRange n v = true) :
    (p.set (n, v)).values = p.values.set (n - 1) v := by
  unfold valueInRange at fits
  split at fits
  iterate 7 next => rfl
  next =>
    rw [← policyNumber_ofNumber (of_decide_eq_true fits)]
    simp only [Params.set, Params.values, List.set_cons_succ, List.set_cons_zero, policyNumber_ofNumber (of_decide_eq_true fits)]
  next =>
    have bit : (if v == 1 then 1 else 0) = v := by
      have := of_decide_eq_true fits
      interval_cases v <;> rfl
    simp only [Params.set, Params.values, bit]
    rfl
  iterate 3 next => rfl
  next =>
    have word : (BitVec.ofNat 9 v).toNat = v := by
      have := of_decide_eq_true fits
      rw [BitVec.toNat_ofNat]
      omega
    simp only [Params.set, Params.values, word]
    rfl
  next => cases fits

theorem valueInRange_number {n v : Nat} (fits : valueInRange n v = true) : 1 ≤ n ∧ n ≤ 13 := by
  by_contra outside
  have none : valueInRange n v = false := by
    unfold valueInRange
    split
    iterate 13 next => exact absurd (by decide) outside
    next => rfl
  rw [none] at fits
  cases fits

theorem Params.set_value (p : Params) {n v i : Nat} (fits : valueInRange n v = true) (known : i < 13) :
    (p.set (n, v)).values.getD i 0 = if n = i + 1 then v else p.values.getD i 0 := by
  have number := valueInRange_number fits
  rw [p.set_values n v fits, List.getD_eq_getElem?_getD, List.getD_eq_getElem?_getD]
  by_cases here : n = i + 1
  · subst here
    rw [if_pos rfl, Nat.add_sub_cancel, List.getElem?_set_self (by simpa [Params.values] using known)]
    rfl
  · rw [if_neg here, List.getElem?_set_ne (by omega)]

/-- Each parameter named once reads back as its value (R183). -/
theorem Params.setAll_value (pairs : List (Nat × Nat)) (fits : ∀ q ∈ pairs, valueInRange q.1 q.2 = true)
    (once : (pairs.map Prod.fst).Nodup) {i : Nat} (known : i < 13) (p : Params) :
    (pairs.foldl Params.set p).values.getD i 0 = match pairs.find? fun q => q.1 == i + 1 with
      | some q => q.2
      | none => p.values.getD i 0 := by
  induction pairs generalizing p with
  | nil => rfl
  | cons q rest ih =>
    obtain ⟨fresh, once⟩ := List.nodup_cons.1 once
    have first := p.set_value (fits q List.mem_cons_self) known
    rw [List.foldl_cons, ih (fun x mem => fits x (List.mem_cons_of_mem q mem)) once, List.find?_cons]
    by_cases here : q.1 = i + 1
    · have named : rest.find? (fun x => x.1 == i + 1) = none := by
        refine List.find?_eq_none.2 fun x mem same => fresh ?_
        rw [here, ← beq_iff_eq.1 same]
        exact List.mem_map_of_mem mem
      rw [if_pos here] at first
      simp only [named, here, beq_self_eq_true]
      exact first
    · rw [if_neg here] at first
      rw [beq_false_of_ne here, first]

/-- Parameters each set to a value of its range stay in their ranges. -/
theorem Params.setAll_inRange (pairs : List (Nat × Nat)) (fits : ∀ q ∈ pairs, valueInRange q.1 q.2 = true) (p : Params)
    (law : ∀ i < 13, valueInRange (i + 1) (p.values.getD i 0) = true) :
    ∀ i < 13, valueInRange (i + 1) ((pairs.foldl Params.set p).values.getD i 0) = true := by
  induction pairs generalizing p with
  | nil => exact law
  | cons q rest ih =>
    refine ih (fun x mem => fits x (List.mem_cons_of_mem q mem)) _ fun i known => ?_
    have first := fits q List.mem_cons_self
    rw [p.set_value first known]
    split
    next here => exact here ▸ first
    next => exact law i known

/-- CONFIGURE's checks leave pairs of parameters and values in their ranges, none named twice (R183). -/
theorem State.configureCheck_none {pairs : List (Nat × Nat)} (passed : s.configureCheck pairs = none) :
    (∀ q ∈ pairs, valueInRange q.1 q.2 = true) ∧ (pairs.map Prod.fst).Nodup := by
  unfold State.configureCheck at passed
  split at passed
  next => cases passed
  next fits =>
    rw [not_or, not_not] at fits
    simpa using fits

/-! ### Frames -/

/-- A request changes the roster, the notice unit and the two queues. -/
theorem State.TakesRequest.frame (takes : s.TakesRequest t) :
    t = { s with ros := t.ros, cn := t.cn, rxq := t.rxq, txq := t.txq } := by
  cases takes with
  | idle => rfl
  | took r rest t taking disposes =>
    cases disposes with
    | discarded cn counted => rfl
    | served t serves =>
      obtain ⟨v, cn, code, payload, edited, -, -, rfl⟩ := serves
      rw [edited.frame]
      rfl

/-- A command of the slot that performs changes the roster, the notice unit and TXQ. -/
theorem State.Performs.frame {c : Instr} {o : Result × State} (performs : s.Performs c o) :
    o.2 = { s with ros := o.2.ros, cn := o.2.cn, txq := o.2.txq } := by
  cases performs with
  | refused | exhausted => rfl
  | performed payload v short edited => rw [edited.frame]
  | offered payload v e short edited => rw [edited.frame]; rfl
  | evicts slot v e edit => rw [edit.frame]; rfl

/-- A completion changes the roster and the notice unit, and is gone. -/
theorem completion_frame {slot : Nat} (released : t = (match s.recordAt slot with
      | some r =>
        if r.state = .evicting then (s.setCompletions (s.completions.erase slot)).releaseRecord slot r
        else s.setCompletions (s.completions.erase slot)
      | none => s.setCompletions (s.completions.erase slot))) :
    t = { s with ros := t.ros, cn := t.cn, completions := s.completions.erase slot } := by
  split at released
  next r record =>
    split at released
    next state =>
      have edit := State.releaseRecord_edit (s := s.setCompletions (s.completions.erase slot)) (moved := some slot) record
        (by simp [state, RecState.active]) (.inl rfl)
      rw [← released] at edit
      exact edit.frame
    next => rw [released]; rfl
  next => rw [released]; rfl

/-! ### Who changes the configuration, the mode and the epoch -/

theorem State.changeRate_guarded : s.changeRate.ctl = s.ctl ∧ s.changeRate.clk = s.clk := by
  unfold State.changeRate
  dsimp only
  split <;> exact ⟨rfl, rfl⟩

/-- The configuration, and the mode with the epoch, as a command leaves them. -/
inductive Governs (s : State) (t : State) : Instr → Prop
  | kept (c : Instr) (cfg : t.cfg = s.cfg) (ctl : t.ctl = s.ctl) : Governs s t c
  | configured (args : List Byte) (passed : s.configureCheck (configPairs args) = none)
      (cfg : t.cfg = (configPairs args).foldl Params.set s.cfg) (ctl : t.ctl = s.ctl) : Governs s t .configure
  | moded (c : Instr) (command : c = .hold ∨ c = .rosterClear) (cfg : t.cfg = s.cfg)
      (epoch : t.ctl.epoch = s.ctl.epoch) : Governs s t c
  | released (cfg : t.cfg = s.cfg) : Governs s t .release
  | reset (dt : Nat) (strap : Bool) (cfg : t.cfg = State.reset.cfg) : Governs s t (.resetRelease dt strap)

theorem Effect.governs {c : Instr} (effect : Effect s c t) : Governs s t c := by
  have timed {c : Instr} (d : Nat) (cfg : t.cfg = (s.advance d).cfg) (ctl : t.ctl = (s.advance d).ctl) : Governs s t c :=
    .kept c (by rw [cfg, s.advance_cfg]) (by rw [ctl, s.advance_ctl])
  cases effect with
  | still => exact .kept c rfl rfl
  | request _ _ takes => rw [takes.frame]; exact .kept c rfl rfl
  | command _ code args o serving performs => rw [performs.frame]; exact .kept c rfl rfl
  | expiry _ v cn edit => rw [edit.frame]; exact .kept c rfl rfl
  | completion slot pending _ released => rw [completion_frame released]; exact .kept _ rfl rfl
  | configure args =>
    unfold State.configure
    dsimp only
    split
    next => exact .kept _ rfl rfl
    next passed =>
      refine .configured args passed rfl ?_
      split
      · rfl
      · exact State.changeRate_guarded.1
  | clearCounters => exact .kept _ rfl rfl
  | hold =>
    unfold State.hold
    split
    · exact .kept _ rfl rfl
    · exact .moded _ (.inl rfl) rfl rfl
  | release args =>
    unfold State.release
    split
    · exact .kept _ rfl rfl
    · exact .released rfl
  | rosterClear => exact .moded _ (.inr rfl) rfl rfl
  | time _ d => exact timed d rfl rfl
  | pinReset dt => exact timed dt rfl rfl
  | resetRelease dt strap => exact .reset dt strap (by cases strap <;> rfl)
  | startUpEnd _ d => exact timed d rfl rfl
  | port _ d => exact timed d rfl rfl
  | character _ w edge =>
    obtain ⟨d, lrx, x, rxq, cn, receives, -⟩ := State.handCharacter_receives (s := s) w edge
    exact timed d (by rw [receives]) (by rw [receives])
  | framingError _ w edge =>
    obtain ⟨d, lrx, x, rxq, cn, receives, -⟩ := State.takeFramingError_receives (s := s) w edge
    exact timed d (by rw [receives]) (by rw [receives])
  | gap _ d =>
    obtain ⟨cn, truncated, -⟩ := (s.advance d).truncateFrame_frame
    exact timed d (by rw [truncated]) (by rw [truncated])
  | startEdge _ d w =>
    obtain ⟨lrx, state, cn, settled, -⟩ := (s.advance d).settleSilence_frame
    exact timed d (by rw [settled]; rfl) (by rw [settled]; rfl)
  | silence _ d => exact timed d rfl rfl
  | attempt _ d =>
    obtain ⟨txq, ltx, completions, cn, is, -⟩ := (s.advance d).startAttempt_transmits
    exact timed d (by rw [is]) (by rw [is])
  | abort _ d a b =>
    obtain ⟨txq, ltx, completions, cn, is, -⟩ := (s.advance d).abortAttempt_transmits a b
    exact timed d (by rw [is]) (by rw [is])
  | complete _ d a =>
    obtain ⟨txq, ltx, completions, cn, is, -⟩ := (s.advance d).completeAttempt_transmits a
    exact timed d (by rw [is]) (by rw [is])
  | ready _ d => exact timed d rfl rfl
  | cutEnd _ d => exact timed d rfl rfl
  | deadline _ d => exact timed d rfl rfl

theorem State.reset_configLaw : State.reset.ConfigLaw := by
  unfold State.ConfigLaw
  decide

theorem State.ConfigLaw.of_cfg (law : s.ConfigLaw) (cfg : t.cfg = s.cfg) : t.ConfigLaw := by
  unfold State.ConfigLaw
  rw [cfg]
  exact law

theorem Governs.configLaw {c : Instr} (governs : Governs s t c) (law : s.ConfigLaw) : t.ConfigLaw := by
  cases governs with
  | kept c cfg | moded c _ cfg | released cfg => exact law.of_cfg cfg
  | configured args passed cfg =>
    unfold State.ConfigLaw
    rw [cfg]
    exact Params.setAll_inRange _ (State.configureCheck_none passed).1 s.cfg law
  | reset dt strap cfg => exact State.reset_configLaw.of_cfg cfg

/-- Settles O14: only CONFIGURE writes parameters, each in its range, and the mode and the epoch have their own commands. -/
theorem parametersModeAndEpochAreGuarded : Obligations.ParametersModeAndEpochAreGuarded := by
  unfold Obligations.ParametersModeAndEpochAreGuarded
  refine ⟨fun s t law run => ?_, fun c s t run notReset => ?_⟩
  · rcases step_effect run with rfl | ⟨c, rest, -, effect⟩
    · exact law
    · exact effect.governs.configLaw (s := { s with pending := rest }) law
  · have governs := (exec_effect run).governs
    cases governs with
    | kept c cfg ctl =>
      exact ⟨fun differs => absurd cfg differs, fun differs => absurd (congrArg _ ctl) differs,
        fun differs => absurd (congrArg _ ctl) differs⟩
    | configured args passed cfg ctl =>
      exact ⟨fun _ => rfl, fun differs => absurd (congrArg _ ctl) differs, fun differs => absurd (congrArg _ ctl) differs⟩
    | moded c command cfg epoch =>
      exact ⟨fun differs => absurd cfg differs, fun _ => command.imp id .inr, fun differs => absurd epoch differs⟩
    | released cfg => exact ⟨fun differs => absurd cfg differs, fun _ => .inr (.inl rfl), fun _ => rfl⟩
    | reset dt strap => exact absurd rfl (notReset dt strap)

/-! ### The commands -/

theorem configPairs_eq (args : List Byte) : configPairs args = (List.range (args.length / 3)).map fun i =>
    (natAt args (3 * i), 256 * natAt args (3 * i + 1) + natAt args (3 * i + 2)) := rfl

/-- A changed LINE_RATE starts the receiver again, and an attempt is to be aborted (R121, R150). -/
theorem State.changeRate_eq : s.changeRate = { s with
    lrx :=
      { chr := .waiting, bits := s.lrx.bits, frm := .outside
        sil := match s.lrx.chr, s.lrx.sil with
          | .waiting, .awaitOne last => .awaitOne last
          | _, _ => .awaitOne true
        quiet := match s.ltx.state with
          | .sending a => some (a.drive.start + 11 * a.drive.bit)
          | _ => s.lrx.quiet }
    ltx := match s.ltx.state with
      | .sending a => { s.ltx with state := .sending { a with abortAtEnd := true } }
      | _ => s.ltx } := by
  have sil : (match s.lrx.chr, s.lrx.sil with
      | .waiting, .awaitOne last => Silence.awaitOne last
      | _, _ => .awaitOne true) = .awaitOne (match s.lrx.chr, s.lrx.sil with
      | .waiting, .awaitOne last => last
      | _, _ => true) := by
    cases s.lrx.chr <;> cases s.lrx.sil <;> rfl
  rw [sil]
  unfold State.changeRate
  dsimp only
  cases state : s.ltx.state <;> rfl

theorem State.configureCheck_eq (pairs : List (Nat × Nat)) :
    s.configureCheck pairs =
      if (∃ p ∈ pairs, valueInRange p.1 p.2 = false) ∨ ¬ (pairs.map Prod.fst).Nodup then some .badArgument
      else if s.ctl.mode = .running ∧ 12 ∈ pairs.map Prod.fst then some .badState else none := by
  have named : pairs.any (fun p => !valueInRange p.1 p.2) = true ↔ ∃ p ∈ pairs, valueInRange p.1 p.2 = false := by
    simp only [List.any_eq_true, Bool.not_eq_true']
  unfold State.configureCheck
  simp only [named]

/-- Settles O58: the checks refuse it whole, or every pair is set and a changed rate restarts the line. -/
theorem configureSetsParameters : Obligations.ConfigureSetsParameters := by
  unfold Obligations.ConfigureSetsParameters
  intro args s serving
  simp only [← configPairs_eq]
  have run : Runs .configure s ((s.configure args).2.setCu (.ready (s.configure args).1)) :=
    congrArg Host.Outcome.next (s.serveCommand_serving 0x50 args _ serving)
  refine ⟨_, run, ?_⟩
  have check := s.configureCheck_eq (pairs := configPairs args)
  unfold State.configure
  split
  next bad => rw [if_pos bad] at check; simp only [check]; rfl
  next good =>
    rw [if_neg good] at check
    split
    next running => rw [if_pos running] at check; simp only [check]; rfl
    next allowed =>
      rw [if_neg allowed] at check
      obtain ⟨fits, once⟩ := State.configureCheck_none check
      simp only [check]
      refine ⟨fun i known => Params.setAll_value _ fits once known s.cfg, ?_⟩
      by_cases same : ((configPairs args).foldl Params.set s.cfg).lineRate = s.cfg.lineRate
      · rw [if_pos same, if_pos (by exact same)]
        rfl
      · rw [if_neg same, if_neg (by exact same), State.changeRate_eq]
        rfl

/-- Settles O59: each in its own mode, by the states LTX can be in. -/
theorem holdAndRelease : Obligations.HoldAndRelease := by
  unfold Obligations.HoldAndRelease
  refine fun s => ⟨fun serving => ?_, fun high low serving => ?_⟩
  · have run : Runs .hold s (s.hold.2.setCu (.ready s.hold.1)) :=
      congrArg Host.Outcome.next (s.serveCommand_serving 0x60 [] _ serving)
    unfold State.hold at run
    refine ⟨fun held => ?_, fun running => ?_⟩
    · rw [held] at run
      exact run
    · rw [running] at run
      refine run.trans ?_
      dsimp only
      unfold State.enterHeld Ltx.enterHeld
      cases state : s.ltx.state with
      | sending a => cases kind : a.kind <;> simp [kind] <;> rfl
      | ready | backoff | window => rfl
  · have run : Runs .release s ((s.release [high, low]).2.setCu (.ready (s.release [high, low]).1)) :=
      congrArg Host.Outcome.next (s.serveCommand_serving 0x61 [high, low] _ serving)
    unfold State.release at run
    refine ⟨fun running => ?_, fun held => ?_⟩
    · rw [running] at run
      exact run
    · rw [held] at run
      refine run.trans ?_
      rw [ofNat_wordAt]
      rfl

theorem Roster.empty_eq : Roster.empty =
    { table := List.replicate 64 none, free := (List.range 60).map (· + 1), hold := [], apq := [],
      groups := List.replicate 16 { isOpen := false, members := [] } } := by decide +kernel

theorem Ltx.clear_eq (l : Ltx) : l.clear =
    { state := .ready, beaconPending := false
      tail := match l.state with
        | .sending a => some a.drive
        | _ => l.tail } := by
  unfold Ltx.clear
  cases l.state <;> rfl

/-- Settles O60: ROSTER CLEAR's one operation, field by field. -/
theorem rosterClearEmptiesTheRoster : Obligations.RosterClearEmptiesTheRoster := by
  unfold Obligations.RosterClearEmptiesTheRoster
  intro s serving
  refine (congrArg Host.Outcome.next (s.serveCommand_serving 0x62 [] _ serving)).trans ?_
  rw [← Roster.empty_eq]
  unfold State.rosterClear
  rw [Ltx.clear_eq]
  rfl

end Sys2Proof.Machine

/-! PROOF. A refused command changes nothing but the result buffer (R174), and HELD keeps the beacon's parts stopped (8.4 to
8.6, 12.2). -/

namespace Sys2Proof.Machine

variable {s t : State}

/-! ### Refused commands -/

/-- What a command that did not change the command unit's own state leaves there. -/
theorem State.Submitted.notReady {cu : CmdUnit} {r : Result} (busy : s.cu.busy = true) (unit : s.cu.Submitted cu) :
    cu ≠ .ready r := by
  rintro rfl
  rcases unit with same | idle | ⟨code, args, executing, -⟩ | ⟨idle, -⟩
  · rw [← same] at busy; cases busy
  · cases idle
  · cases executing
  · rw [idle] at busy; cases busy

/-- What R174 says of a command whose result is not DONE. -/
def Unchanged (c : Instr) (s t : State) (r : Result) : Prop :=
  r.payload = [] ∧
  (t = { s with cu := t.cu } ∨ c = .approve ∧ r.code = .full ∧ t = { s with cu := t.cu, cn := s.cn.noticed 2 })

theorem State.Performs.unchanged {c : Instr} {o : Result × State} {r : Result} (performs : s.Performs c o)
    (ready : (o.2.setCu (.ready o.1)).cu = .ready r) (notDone : r.code ≠ .done) :
    Unchanged c s (o.2.setCu (.ready o.1)) r := by
  obtain rfl : o.1 = r := CmdUnit.ready.inj ready
  cases performs with
  | refused x failed => exact ⟨rfl, .inl rfl⟩
  | exhausted approve => exact ⟨rfl, .inr ⟨approve, rfl, rfl⟩⟩
  | performed | offered | evicts => exact absurd rfl notDone

/-- A command of the mode or the configuration whose result is refused changes nothing. -/
theorem unchanged_of_refused {c : Instr} {o : Result × State} {r : Result}
    (outcome : o.1.code = .done ∨ ∃ x, o = (result x, s)) (ready : (o.2.setCu (.ready o.1)).cu = .ready r)
    (notDone : r.code ≠ .done) : Unchanged c s (o.2.setCu (.ready o.1)) r := by
  obtain rfl : o.1 = r := CmdUnit.ready.inj ready
  rcases outcome with isDone | ⟨x, rfl⟩
  · exact absurd isDone notDone
  · exact ⟨rfl, .inl rfl⟩

theorem State.configure_outcome (args : List Byte) :
    (s.configure args).1.code = .done ∨ ∃ x, s.configure args = (result x, s) := by
  unfold State.configure
  dsimp only
  split
  next x _ => exact .inr ⟨x, rfl⟩
  next => exact .inl rfl

theorem State.hold_outcome : s.hold.1.code = .done ∨ ∃ x, s.hold = (result x, s) := by
  unfold State.hold
  split
  · exact .inr ⟨_, rfl⟩
  · exact .inl rfl

theorem State.release_outcome (args : List Byte) :
    (s.release args).1.code = .done ∨ ∃ x, s.release args = (result x, s) := by
  unfold State.release
  split
  · exact .inr ⟨_, rfl⟩
  · exact .inl rfl

/-- Settles O48: only a command of the slot makes a result, and a refused one has touched nothing else. -/
theorem failedCommandChangesNothing : Obligations.FailedCommandChangesNothing := by
  unfold Obligations.FailedCommandChangesNothing
  intro c s t r busy run ready notDone
  have keeps {unit : CmdUnit} (cu : t.cu = unit) (submitted : s.cu.Submitted unit) : Unchanged c s t r :=
    absurd (cu.symm.trans ready) (State.Submitted.notReady busy submitted)
  have timed (d : Nat) (cu : t.cu = (s.advance d).cu) : Unchanged c s t r :=
    keeps (cu.trans (s.advance_cu d)) (.inl rfl)
  have effect := exec_effect run
  cases effect with
  | still => exact keeps rfl (.inl rfl)
  | request _ _ takes => exact keeps (unit := s.cu) (by rw [takes.frame]) (.inl rfl)
  | command _ code args o serving performs => exact performs.unchanged ready notDone
  | expiry _ v cn edit => exact keeps (unit := s.cu) (by rw [edit.frame]; rfl) (.inl rfl)
  | completion slot pending _ released => exact keeps (unit := s.cu) (by rw [completion_frame released]) (.inl rfl)
  | configure args => exact unchanged_of_refused (State.configure_outcome args) ready notDone
  | clearCounters => exact absurd (congrArg Result.code (CmdUnit.ready.inj ready)).symm notDone
  | hold => exact unchanged_of_refused State.hold_outcome ready notDone
  | release args => exact unchanged_of_refused (State.release_outcome args) ready notDone
  | rosterClear => exact absurd (congrArg Result.code (CmdUnit.ready.inj ready)).symm notDone
  | time _ d => exact timed d rfl
  | pinReset dt => exact keeps rfl (.inr (.inl rfl))
  | resetRelease dt strap => exact keeps (by cases strap <;> rfl) (.inr (.inl rfl))
  | startUpEnd _ d => exact timed d rfl
  | port _ d hp cu cn _ submitted => exact keeps rfl submitted
  | character _ w edge =>
    obtain ⟨d, lrx, x, rxq, cn, receives, -⟩ := State.handCharacter_receives (s := s) w edge
    exact timed d (by rw [receives])
  | framingError _ w edge =>
    obtain ⟨d, lrx, x, rxq, cn, receives, -⟩ := State.takeFramingError_receives (s := s) w edge
    exact timed d (by rw [receives])
  | gap _ d =>
    obtain ⟨cn, truncated, -⟩ := (s.advance d).truncateFrame_frame
    exact timed d (by rw [truncated])
  | startEdge _ d w =>
    obtain ⟨lrx, state, cn, settled, -⟩ := (s.advance d).settleSilence_frame
    exact timed d (by rw [settled]; rfl)
  | silence _ d => exact timed d rfl
  | attempt _ d =>
    obtain ⟨txq, ltx, completions, cn, is, -⟩ := (s.advance d).startAttempt_transmits
    exact timed d (by rw [is])
  | abort _ d a b =>
    obtain ⟨txq, ltx, completions, cn, is, -⟩ := (s.advance d).abortAttempt_transmits a b
    exact timed d (by rw [is])
  | complete _ d a =>
    obtain ⟨txq, ltx, completions, cn, is, -⟩ := (s.advance d).completeAttempt_transmits a
    exact timed d (by rw [is])
  | ready _ d => exact timed d rfl
  | cutEnd _ d => exact timed d rfl
  | deadline _ d => exact timed d rfl

/-! ### HELD (R146, R147, R149, R150) -/

/-- In HELD the beacon has no part in LTX: none is pending, none is sent and no window is open. -/
def Ltx.beaconless (l : Ltx) : Prop := l.beaconPending = false ∧ l.state.beaconing = false

theorem State.heldLaw_iff : s.HeldLaw ↔ s.clk.phase < 14745600 ∧
    (s.ctl.mode = .held → s.clk.beacon = none ∧ s.ltx.beaconless) ∧
    (s.ctl.mode = .running → s.clk.beacon.isSome = true) := by
  unfold State.HeldLaw Ltx.beaconless
  cases s.ctl.mode <;> simp

/-- The clocks and the mode as they were, and LTX without a beacon as long as it was. -/
theorem State.HeldLaw.of_parts (law : s.HeldLaw) (clk : t.clk = s.clk) (mode : t.ctl.mode = s.ctl.mode)
    (ltx : s.ltx.beaconless → t.ltx.beaconless) : t.HeldLaw := by
  rw [State.heldLaw_iff] at law ⊢
  obtain ⟨phase, held, running⟩ := law
  rw [clk, mode]
  exact ⟨phase, fun is => (held is).imp id ltx, running⟩

theorem State.HeldLaw.advance (law : s.HeldLaw) (d : Nat) : (s.advance d).HeldLaw := by
  cases inReset : s.inReset
  · rw [State.heldLaw_iff] at law ⊢
    obtain ⟨phase, held, running⟩ := law
    rw [s.advance_eq d inReset]
    refine ⟨Clocks.run_phase _ _ _ _ phase, fun is => ?_, fun is => ?_⟩
    · obtain ⟨stopped, idle, quiet⟩ := held is
      have mode : s.ctl.mode = .held := is
      refine ⟨by rw [mode]; exact stopped, by simp [mode, idle], ?_⟩
      rcases settleLtx_cases s.cfg.lineRate (s.now + d) s.ltx.state with same | ⟨a, sending, settled⟩
      · rwa [same]
      · rw [sending] at quiet
        rw [settled]
        simp only [LtxState.beaconing, (settleAttempt_fields s.cfg.lineRate (s.now + d) a).1]
        exact quiet
    · have mode : s.ctl.mode = .running := is
      simp only [mode, Clocks.run, Option.isSome_map]
      exact running mode
  · rw [s.advance_inReset d inReset]
    exact law.of_parts rfl rfl id

theorem Ltx.beaconless.hears {l : Ltx} (quiet : l.beaconless) (x : Option (Byte × Bool)) (now : Nat) :
    (l.hears x now).beaconless := by
  unfold Ltx.hears
  split
  next a sending =>
    split
    · refine ⟨quiet.1, ?_⟩
      have idle := quiet.2
      rw [sending] at idle
      exact idle
    · exact quiet
  next => exact quiet

theorem Ltx.beaconless.to_ready {l : Ltx} (quiet : l.beaconless) : Ltx.beaconless { l with state := .ready } :=
  ⟨quiet.1, rfl⟩

theorem Ltx.enterHeld_beaconless (l : Ltx) : l.enterHeld.beaconless := by
  unfold Ltx.enterHeld
  split
  next => exact ⟨rfl, rfl⟩
  next a _ =>
    split
    next => exact ⟨rfl, rfl⟩
    next kind => exact ⟨rfl, by simp [LtxState.beaconing, kind]⟩
  next => exact ⟨rfl, rfl⟩
  next => exact ⟨rfl, rfl⟩

theorem Ltx.clear_beaconless (l : Ltx) : l.clear.beaconless := by
  unfold Ltx.clear
  split <;> exact ⟨rfl, rfl⟩

theorem State.startAttempt_held (law : s.HeldLaw) : s.startAttempt.HeldLaw := by
  unfold State.startAttempt
  split
  next =>
    split
    · exact law.of_parts rfl rfl fun quiet => ⟨quiet.1, rfl⟩
    · exact law
  next =>
    split
    next pending => exact law.of_parts rfl rfl fun quiet => by rw [quiet.1] at pending; cases pending
    next => exact law

theorem State.abortAttempt_held (law : s.HeldLaw) (a : Attempt) (b : Bool) : (s.abortAttempt a b).HeldLaw := by
  unfold State.abortAttempt
  split
  next => exact law.of_parts rfl rfl fun quiet => ⟨quiet.1, rfl⟩
  next =>
    split
    next i e _ =>
      unfold State.abortEntry
      dsimp only
      split
      · exact law.of_parts rfl rfl fun quiet => ⟨quiet.1, rfl⟩
      · split
        · rw [State.raiseCompletion_frame]
          exact law.of_parts rfl rfl fun quiet => ⟨quiet.1, rfl⟩
        · exact law.of_parts rfl rfl fun quiet => ⟨quiet.1, rfl⟩
    next => exact law.of_parts rfl rfl fun quiet => ⟨quiet.1, rfl⟩

theorem State.completeAttempt_held (law : s.HeldLaw) (a : Attempt)
    (sending : s.ltx.state.beaconing = (a.kind != .entry)) : (s.completeAttempt a).HeldLaw := by
  unfold State.completeAttempt
  split
  next slots kind =>
    refine law.of_parts rfl rfl fun quiet => ?_
    rw [kind, quiet.2] at sending
    cases sending
  next =>
    split
    · rw [State.raiseCompletion_frame]
      exact law.of_parts rfl rfl Ltx.beaconless.to_ready
    · exact law.of_parts rfl rfl Ltx.beaconless.to_ready

theorem State.changeRate_held (law : s.HeldLaw) : s.changeRate.HeldLaw := by
  unfold State.changeRate
  dsimp only
  split
  next a sending =>
    refine law.of_parts rfl rfl fun quiet => ⟨quiet.1, ?_⟩
    have idle := quiet.2
    rw [sending] at idle
    exact idle
  next => exact law.of_parts rfl rfl id

theorem State.advance_beaconing {a : Attempt} (d : Nat) (sending : s.ltx.state = .sending a) :
    (s.advance d).ltx.state.beaconing = (a.kind != .entry) := by
  cases inReset : s.inReset
  · rw [s.advance_eq d inReset]
    simp only [sending, settleLtx, LtxState.beaconing, (settleAttempt_fields s.cfg.lineRate (s.now + d) a).1]
  · rw [s.advance_inReset d inReset]
    simp only [sending, LtxState.beaconing]

theorem Effect.heldLaw {c : Instr} (effect : Effect s c t) (law : s.HeldLaw) : t.HeldLaw := by
  cases effect with
  | still => exact law
  | request _ _ takes => rw [takes.frame]; exact law.of_parts rfl rfl id
  | command _ code args o serving performs => rw [performs.frame]; exact law.of_parts rfl rfl id
  | expiry _ v cn edit => rw [edit.frame]; exact law.of_parts rfl rfl id
  | completion slot pending _ released => rw [completion_frame released]; exact law.of_parts rfl rfl id
  | configure args =>
    unfold State.configure
    dsimp only
    split
    next => exact law.of_parts rfl rfl id
    next =>
      split
      · exact law.of_parts rfl rfl id
      · exact (State.changeRate_held law).of_parts rfl rfl id
  | clearCounters => exact law.of_parts rfl rfl id
  | hold =>
    unfold State.hold
    split
    · exact law.of_parts rfl rfl id
    · exact State.heldLaw_iff.2 ⟨(State.heldLaw_iff.1 law).1, fun _ => ⟨rfl, s.ltx.enterHeld_beaconless⟩, fun is => (by cases is)⟩
  | release args =>
    unfold State.release
    split
    · exact law.of_parts rfl rfl id
    · exact State.heldLaw_iff.2 ⟨(State.heldLaw_iff.1 law).1, fun is => (by cases is), fun _ => rfl⟩
  | rosterClear =>
    exact State.heldLaw_iff.2 ⟨(State.heldLaw_iff.1 law).1, fun _ => ⟨rfl, s.ltx.clear_beaconless⟩, fun is => (by cases is)⟩
  | time _ d => exact law.advance d
  | pinReset dt => exact (law.advance dt).of_parts rfl rfl fun quiet => ⟨quiet.1, rfl⟩
  | resetRelease dt strap =>
    cases strap
    · exact State.heldLaw_iff.2 ⟨(by decide : 0 < 14745600), fun is => (by cases is), fun _ => rfl⟩
    · exact State.heldLaw_iff.2 ⟨(by decide : 0 < 14745600), fun _ => ⟨rfl, rfl, rfl⟩, fun is => (by cases is)⟩
  | startUpEnd _ d => exact (law.advance d).of_parts rfl rfl id
  | port _ d => exact (law.advance d).of_parts rfl rfl id
  | character _ w edge =>
    obtain ⟨d, lrx, x, rxq, cn, receives, -⟩ := State.handCharacter_receives (s := s) w edge
    rw [receives]
    exact (law.advance d).of_parts rfl rfl fun quiet => quiet.hears x _
  | framingError _ w edge =>
    obtain ⟨d, lrx, x, rxq, cn, receives, -⟩ := State.takeFramingError_receives (s := s) w edge
    rw [receives]
    exact (law.advance d).of_parts rfl rfl fun quiet => quiet.hears x _
  | gap _ d =>
    obtain ⟨cn, truncated, -⟩ := (s.advance d).truncateFrame_frame
    rw [truncated]
    exact (law.advance d).of_parts rfl rfl id
  | startEdge _ d w =>
    obtain ⟨lrx, state, cn, settled, -, kept⟩ := (s.advance d).settleSilence_frame
    rw [settled]
    refine (law.advance d).of_parts rfl rfl fun quiet => ⟨quiet.1, ?_⟩
    rcases kept with rfl | ⟨rfl, -⟩
    · exact quiet.2
    · rfl
  | silence _ d => exact (law.advance d).of_parts rfl rfl id
  | attempt _ d => exact State.startAttempt_held (law.advance d)
  | abort _ d a b => exact State.abortAttempt_held (law.advance d) a b
  | complete _ d a sending => exact State.completeAttempt_held (law.advance d) a (State.advance_beaconing d sending)
  | ready _ d => exact (law.advance d).of_parts rfl rfl Ltx.beaconless.to_ready
  | cutEnd _ d => exact (law.advance d).of_parts rfl rfl id
  | deadline _ d => exact (law.advance d).of_parts rfl rfl id

/-- Settles O7: the beacon's parts start in RUNNING only, and HELD stops them. -/
theorem heldLawKept : Obligations.HeldLawKept := by
  unfold Obligations.HeldLawKept
  intro s t law run
  rcases step_effect run with rfl | ⟨c, rest, -, effect⟩
  · exact law
  · exact effect.heldLaw (s := { s with pending := rest }) law

end Sys2Proof.Machine

/-! PROOF. The frame assembler (7.4, 7.5): a byte that enters a frame in assembly keeps its count, its declared length and
its running CRC true to the bytes received, and only requests to address 0 enter RXQ (7.6). -/

namespace Sys2Proof.Machine

variable {s t : State} {a : Assembly} {b : Byte}

/-! ### A frame in assembly -/

/-- The bytes, the declared length and the running CRC agree (R126, R127, R129). -/
def Assembly.Sound (a : Assembly) : Prop :=
  1 ≤ a.bytes.length ∧
  match a.declared with
  | none => a.bytes.length ≤ 4 ∧ a.crc = crcOf a.bytes
  | some l => 5 ≤ a.bytes.length ∧ a.bytes.length < l ∧ l = 7 + natAt a.bytes 4 ∧ l ≤ 55 ∧
      a.crc = crcOf (a.bytes.take (l - 2))

/-- A request that R131 lets into RXQ. -/
def Request.Admissible (r : Request) : Prop := r.dest = 0 ∧ r.source ≤ 63 ∧ r.payload.length ≤ 48

theorem State.receptionLaw_iff :
    s.ReceptionLaw ↔ (∀ a, s.lrx.frm = .assembling a → a.Sound) ∧ ∀ r ∈ s.rxq, r.Admissible := Iff.rfl

/-- The frame in assembly, if any, is as it was, and RXQ gains nothing. -/
theorem State.ReceptionLaw.of_parts (law : s.ReceptionLaw)
    (frm : ∀ a, t.lrx.frm = .assembling a → s.lrx.frm = .assembling a) (rxq : ∀ r ∈ t.rxq, r ∈ s.rxq) : t.ReceptionLaw := by
  obtain ⟨assembly, requests⟩ := State.receptionLaw_iff.1 law
  exact State.receptionLaw_iff.2 ⟨fun a is => assembly a (frm a is), fun r mem => requests r (rxq r mem)⟩

theorem crcOf_append (bytes : List Byte) (b : Byte) : crcOf (bytes ++ [b]) = crcByte (crcOf bytes) b := by
  simp [crcOf]

theorem natAt_append (bytes : List Byte) (b : Byte) {i : Nat} (inside : i < bytes.length) :
    natAt (bytes ++ [b]) i = natAt bytes i := by
  simp [natAt, byteAt, List.getElem?_append_left inside]

theorem natAt_append_self (bytes : List Byte) (b : Byte) : natAt (bytes ++ [b]) bytes.length = b.toNat := by
  simp [natAt, byteAt]

/-- The length that stands declared once a byte has come: byte 4 declares it (R127). -/
def Assembly.declaredBy (a : Assembly) (b : Byte) : Option Nat := if a.bytes.length = 4 then some (7 + b.toNat) else a.declared

/-- The frame in assembly with one byte more, in its CRC up to byte 4 + L (R126, R129). -/
def Assembly.grown (a : Assembly) (b : Byte) : Assembly where
  bytes := a.bytes ++ [b]
  declared := a.declaredBy b
  crc := if (match a.declaredBy b with
      | some l => decide (a.bytes.length + 2 < l)
      | none => true) then crcByte a.crc b else a.crc
  own := a.own

/-- An unmarked byte is a malformed length, or enters the frame, which it completes or leaves in assembly (R126, R127). -/
theorem State.assembleByte_eq (endTime : Nat) : s.assembleByte a b endTime =
    if a.bytes.length = 4 ∧ 48 < b.toNat then (s.countMalformedUnless (a.own || s.ownSpan)).setFrm (.discarding a.own)
    else if a.declaredBy b = some (a.bytes.length + 1) then
      (s.setFrm .outside).completeFrame (a.grown b) (a.own || s.ownSpan) endTime
    else s.setFrm (.assembling (a.grown b)) := rfl

/-- A frame of sound header grows soundly by a byte that does not complete it. -/
theorem Assembly.Sound.grown (sound : a.Sound) (wellFormed : ¬ (a.bytes.length = 4 ∧ 48 < b.toNat))
    (more : a.declaredBy b ≠ some (a.bytes.length + 1)) : (a.grown b).Sound := by
  obtain ⟨begun, fields⟩ := sound
  refine ⟨by simp [Assembly.grown], ?_⟩
  cases declared : a.declared with
  | none =>
    rw [declared] at fields
    obtain ⟨short, crc⟩ := fields
    by_cases four : a.bytes.length = 4
    · have is : a.declaredBy b = some (7 + b.toNat) := if_pos four
      have covered : a.bytes.length + 2 < 7 + b.toNat := by omega
      have byte4 := natAt_append_self a.bytes b
      rw [four] at byte4
      simp only [Assembly.grown, is, covered, decide_true, if_true, List.length_append, List.length_singleton, byte4, true_and]
      refine ⟨by omega, by omega, by omega, ?_⟩
      rw [List.take_of_length_le (by simp; omega), crcOf_append, crc]
    · have is : a.declaredBy b = none := (if_neg four).trans declared
      simp only [Assembly.grown, is, if_true, List.length_append, List.length_singleton]
      exact ⟨by omega, by rw [crcOf_append, crc]⟩
  | some l =>
    rw [declared] at fields
    obtain ⟨header, before, length, limit, crc⟩ := fields
    have is : a.declaredBy b = some l := (if_neg (by omega)).trans declared
    rw [is] at more
    have last : a.bytes.length + 1 ≠ l := fun same => more (congrArg some same.symm)
    simp only [Assembly.grown, is, List.length_append, List.length_singleton]
    refine ⟨by omega, by omega, by rw [natAt_append _ _ (by omega)]; exact length, limit, ?_⟩
    by_cases covered : a.bytes.length + 2 < l
    · rw [decide_eq_true covered, if_pos rfl, crc, List.take_of_length_le (by omega),
        List.take_of_length_le (by simp; omega), crcOf_append]
    · rw [decide_eq_false covered, if_neg (by simp), List.take_append_of_le_length (by omega), crc]

/-- What completes a sound frame: the byte count is the declared length, and the CRC is that of all but the last two. -/
theorem Assembly.Sound.completed (sound : a.Sound) (last : a.declaredBy b = some (a.bytes.length + 1)) :
    a.declared = some (a.bytes.length + 1) ∧ 5 ≤ a.bytes.length ∧
    a.bytes.length + 1 = 7 + natAt (a.bytes ++ [b]) 4 ∧ a.bytes.length + 1 ≤ 55 ∧
    (a.grown b).crc = crcOf ((a.bytes ++ [b]).take (a.bytes.length - 1)) := by
  obtain ⟨begun, fields⟩ := sound
  have notFour : a.bytes.length ≠ 4 := fun four => by
    rw [Assembly.declaredBy, if_pos four] at last
    injection last
    omega
  have declared : a.declared = some (a.bytes.length + 1) := (if_neg notFour).symm.trans last
  rw [declared] at fields
  obtain ⟨header, before, length, limit, crc⟩ := fields
  refine ⟨declared, header, by rw [natAt_append _ _ (by omega)]; exact length, limit, ?_⟩
  have uncovered : ¬ a.bytes.length + 2 < a.bytes.length + 1 := by omega
  simp only [Assembly.grown, last, decide_eq_false uncovered, Bool.false_eq_true, if_false]
  rw [crc, List.take_append_of_le_length (by omega)]
  rfl

/-! ### Admission to RXQ -/

theorem State.countMalformedUnless_parts (own : Bool) :
    (s.countMalformedUnless own).lrx = s.lrx ∧ (s.countMalformedUnless own).rxq = s.rxq := by
  cases own <;> exact ⟨rfl, rfl⟩

theorem State.admitToRxq_parts (r : Request) (quiet : Bool) : (s.admitToRxq r quiet).lrx = s.lrx ∧
    ∀ x ∈ (s.admitToRxq r quiet).rxq, x ∈ s.rxq ∨ x = r := by
  rw [s.admitToRxq_eq]
  split
  · exact ⟨rfl, fun x mem => by simpa using mem⟩
  · exact ⟨rfl, fun x mem => .inl mem⟩

/-- A complete frame adds to RXQ at most a request to 0, of its own source and length. -/
theorem State.completeFrame_parts (frame : Assembly) (quiet : Bool) (endTime : Nat) (short : natAt frame.bytes 4 ≤ 48) :
    (s.completeFrame frame quiet endTime).lrx = s.lrx ∧
    ∀ x ∈ (s.completeFrame frame quiet endTime).rxq, x ∈ s.rxq ∨ x.Admissible := by
  have malformed := State.countMalformedUnless_parts (s := s) quiet
  unfold State.completeFrame
  dsimp only
  split
  next => cases quiet <;> exact ⟨rfl, fun x mem => .inl mem⟩
  next =>
    split
    next => exact ⟨malformed.1, fun x mem => .inl (malformed.2 ▸ mem)⟩
    next =>
      split
      next => exact ⟨malformed.1, fun x mem => .inl (malformed.2 ▸ mem)⟩
      next source =>
        split
        next => exact ⟨rfl, fun x mem => .inl mem⟩
        next toZero =>
          obtain ⟨lrx, rxq⟩ := State.admitToRxq_parts (s := s) (s.requestOf frame.bytes endTime) quiet
          refine ⟨lrx, fun x mem => (rxq x mem).imp id fun is => ?_⟩
          have zero : natAt frame.bytes 0 = 0 := by
            by_contra other
            exact toZero (by simp [other])
          subst is
          refine ⟨by simp [State.requestOf, zero], Nat.le_of_not_lt source, ?_⟩
          simp only [State.requestOf, List.length_take]
          omega

theorem State.ReceptionLaw.assembleUnmarked (law : s.ReceptionLaw) (endTime : Nat) :
    (s.assembleUnmarked b endTime).ReceptionLaw := by
  obtain ⟨assembly, requests⟩ := State.receptionLaw_iff.1 law
  unfold State.assembleUnmarked
  split
  next a is =>
    have sound := assembly a is
    rw [State.assembleByte_eq]
    split
    next =>
      have counted := State.countMalformedUnless_parts (s := s) (a.own || s.ownSpan)
      exact State.receptionLaw_iff.2 ⟨fun _ is => (by cases is), fun r mem => requests r (counted.2 ▸ mem)⟩
    next wellFormed =>
      split
      next last =>
        obtain ⟨-, -, length, limit, -⟩ := sound.completed last
        obtain ⟨lrx, rxq⟩ := State.completeFrame_parts (s := s.setFrm .outside) (a.grown b) (a.own || s.ownSpan) endTime
          (show natAt (a.bytes ++ [b]) 4 ≤ 48 by omega)
        refine State.receptionLaw_iff.2 ⟨fun _ is => ?_, fun r mem => (rxq r mem).elim (requests r) id⟩
        rw [lrx] at is
        cases is
      next more =>
        exact State.receptionLaw_iff.2 ⟨fun x is => by cases is; exact sound.grown wellFormed more, requests⟩
  next => exact law

theorem State.ReceptionLaw.assembleMarked (law : s.ReceptionLaw) : (s.assembleMarked b).ReceptionLaw := by
  rw [s.assembleMarked_eq]
  refine State.receptionLaw_iff.2 ⟨fun x is => ?_, (State.receptionLaw_iff.1 law).2⟩
  cases is
  exact ⟨Nat.le_refl 1, (by decide : 1 ≤ 4), rfl⟩

theorem State.ReceptionLaw.advance (law : s.ReceptionLaw) (d : Nat) : (s.advance d).ReceptionLaw :=
  law.of_parts (fun a is => by rwa [s.advance_frm d] at is) fun r mem => by rwa [s.advance_rxq d] at mem

theorem State.ReceptionLaw.handCharacter (law : s.ReceptionLaw) (w : CharWave) (edge : Nat) :
    (s.handCharacter w edge).ReceptionLaw := by
  rw [s.handCharacter_eq]
  have advanced : (s.advanceTo (edge + handOn s.cfg.lineRate)).ReceptionLaw := law.advance _
  dsimp only
  split
  · exact (advanced.assembleMarked (b := waveByte w)).of_parts (fun a is => is) fun r mem => mem
  · exact (advanced.assembleUnmarked (b := waveByte w) _).of_parts (fun a is => is) fun r mem => mem

/-! ### Every effect -/

/-- Where a frame assembler is OUTSIDE no frame is in assembly. -/
theorem State.ReceptionLaw.cut (law : s.ReceptionLaw) (frm : t.lrx.frm = .outside) (rxq : ∀ r ∈ t.rxq, r ∈ s.rxq) :
    t.ReceptionLaw :=
  law.of_parts (fun a is => by rw [frm] at is; cases is) rxq

theorem State.receptionLaw_empty (frm : s.lrx.frm = .outside) (rxq : s.rxq = []) : s.ReceptionLaw :=
  State.receptionLaw_iff.2 ⟨fun a is => (by rw [frm] at is; cases is), fun r mem => (by rw [rxq] at mem; cases mem)⟩

theorem State.configure_reception (args : List Byte) (law : s.ReceptionLaw) : (s.configure args).2.ReceptionLaw := by
  unfold State.configure
  dsimp only
  split
  next => exact law
  next =>
    split
    · exact law
    · rw [State.changeRate_eq]
      exact law.cut rfl fun r mem => mem

theorem State.TakesRequest.rxq_subset (takes : s.TakesRequest t) : ∀ r ∈ t.rxq, r ∈ s.rxq := by
  cases takes with
  | idle => exact fun r mem => mem
  | took q rest t taking disposes =>
    have fewer {t : State} (rxq : t.rxq = rest) : ∀ r ∈ t.rxq, r ∈ s.rxq := fun r mem => by
      rw [taking.2.1]
      exact List.mem_cons_of_mem q (rxq ▸ mem)
    cases disposes with
    | discarded => exact fewer rfl
    | served t serves =>
      obtain ⟨v, cn, code, payload, edited, -, -, rfl⟩ := serves
      exact fewer (by rw [edited.frame]; rfl)

theorem Effect.receptionLaw {c : Instr} (effect : Effect s c t) (law : s.ReceptionLaw) : t.ReceptionLaw := by
  have advanced (d : Nat) : (s.advance d).ReceptionLaw := law.advance d
  cases effect with
  | still => exact law
  | request _ _ takes => exact law.of_parts (fun a is => by rw [takes.frame] at is; exact is) takes.rxq_subset
  | command _ code args o serving performs => rw [performs.frame]; exact law
  | expiry _ v cn edit => rw [edit.frame]; exact law
  | completion slot pending _ released => rw [completion_frame released]; exact law
  | configure args => exact State.configure_reception args law
  | clearCounters => exact law
  | hold => unfold State.hold; split <;> exact law
  | release args => unfold State.release; split <;> exact law
  | rosterClear => exact law.of_parts (fun a is => is) fun r mem => by cases mem
  | time _ d => exact advanced d
  | pinReset dt => exact advanced dt
  | resetRelease dt strap => cases strap <;> exact State.receptionLaw_empty rfl rfl
  | startUpEnd _ d => exact advanced d
  | port _ d => exact advanced d
  | character _ w edge => exact law.handCharacter w edge
  | framingError _ w edge =>
    unfold State.takeFramingError
    dsimp only
    rw [State.hearEcho_eq]
    split
    · exact (law.advance _).cut rfl fun r mem => mem
    · exact (law.advance _).cut rfl fun r mem => mem
  | gap _ d => rw [State.truncateFrame_eq]; exact (advanced d).cut rfl fun r mem => mem
  | startEdge _ d w =>
    cases sil : (s.advance d).lrx.sil with
    | since t0 =>
      rw [State.settleSilence_eq _ t0 sil]
      refine (advanced d).of_parts (fun a is => ?_) fun r mem => mem
      change (if _ then FrameAsm.outside else (s.advance d).lrx.frm) = _ at is
      split at is
      · cases is
      · exact is
    | held | awaitOne =>
      unfold State.settleSilence
      rw [sil]
      exact (advanced d).of_parts (fun a is => is) fun r mem => mem
  | silence _ d => exact advanced d
  | attempt _ d =>
    obtain ⟨txq, ltx, completions, cn, is, -⟩ := (s.advance d).startAttempt_transmits
    rw [is]
    exact advanced d
  | abort _ d a b =>
    obtain ⟨txq, ltx, completions, cn, is, -⟩ := (s.advance d).abortAttempt_transmits a b
    rw [is]
    exact advanced d
  | complete _ d a =>
    obtain ⟨txq, ltx, completions, cn, is, -⟩ := (s.advance d).completeAttempt_transmits a
    rw [is]
    exact advanced d
  | ready _ d => exact advanced d
  | cutEnd _ d => exact advanced d
  | deadline _ d => exact advanced d

/-- Settles O9: bytes enter the frame one at a time, and RXQ gains what passes the filter only. -/
theorem receptionLawKept : Obligations.ReceptionLawKept := by
  unfold Obligations.ReceptionLawKept
  intro s t law run
  rcases step_effect run with rfl | ⟨c, rest, -, effect⟩
  · exact law
  · exact effect.receptionLaw (s := { s with pending := rest }) law

end Sys2Proof.Machine

/-! PROOF. Capacities (00 section 5): what every effect adds to a collection, it adds while there is room. -/

namespace Sys2Proof.Machine

variable {s t : State} {slot : Nat}

/-! ### The roster's capacities -/

/-- A record's groups and label fit (00 section 5). -/
def Record.Small (r : Record) : Prop := r.groups.length ≤ 4 ∧ r.label.length ≤ 12

/-- The roster's part of the capacity law. -/
structure Roster.Small (ros : Roster) : Prop where
  table : ros.table.length = 64
  groups : ros.groups.length = 16
  apq : ros.apq.length ≤ 8
  members : ∀ g, (ros.groups.getD g ⟨false, []⟩).members.length ≤ 24
  records : ∀ (i : Nat) (r : Record), (ros.table[i]?).join = some r → r.Small

abbrev State.RosterSmall (s : State) : Prop := s.ros.Small

theorem State.RosterSmall.withSlot (law : s.RosterSmall) {new : Option Record} {c : Custody} {apq : List ApqItem}
    {groups : List Group} (inTable : slot < s.ros.table.length) (small : ∀ r, new = some r → r.Small)
    (queue : apq.length ≤ s.ros.apq.length) (sixteen : groups.length = s.ros.groups.length)
    (members : ∀ g, (groups.getD g ⟨false, []⟩).members.length ≤ 24) : (s.withSlot slot new c apq groups).RosterSmall where
  table := (List.length_set).trans law.table
  groups := sixteen.trans law.groups
  apq := Nat.le_trans queue law.apq
  members := members
  records i r record := by
    replace record : (s.withSlot slot new c apq groups).recordAt i = some r := record
    rw [s.withSlot_recordAt new c apq groups inTable] at record
    split at record
    · exact small r record
    · exact law.records i r record

/-- Slots leave member lists, so that none grows. -/
theorem leftAll_members (groups : List Group) (g : Nat) : ((leftAll slot groups).getD g ⟨false, []⟩).members.length ≤
    (groups.getD g ⟨false, []⟩).members.length := by
  simp only [leftAll, List.getD_eq_getElem?_getD, List.getElem?_map]
  cases groups[g]? with
  | none => exact Nat.le_refl _
  | some x => exact List.length_erase_le

theorem State.Edit.rosterSmall {moved : Option Nat} (edit : s.Edit moved t) (law : s.RosterSmall) : t.RosterSmall := by
  have leaving (slot g : Nat) : ((leftAll slot s.ros.groups).getD g ⟨false, []⟩).members.length ≤ 24 :=
    Nat.le_trans (leftAll_members _ g) (law.members g)
  have sixteen (slot : Nat) : (leftAll slot s.ros.groups).length = s.ros.groups.length := List.length_map _
  cases edit with
  | same => exact law
  | refresh slot r r' record continues visible =>
    have groups : r'.groups = r.groups := congrArg (fun v => v.2.2.2.2.2.1) visible
    have label : r'.label = r.label := congrArg (fun v => v.2.2.2.2.1) visible
    refine law.withSlot (s.recordAt_lt slot r record) (fun x is => ?_) (Nat.le_refl _) rfl law.members
    rw [← Option.some.inj is, Record.Small, groups, label]
    exact law.records slot r record
  | rewrite slot r r' c record continues groups =>
    refine law.withSlot (s.recordAt_lt slot r record) (fun x is => ?_) (Nat.le_refl _) rfl law.members
    obtain ⟨few, short⟩ := law.records slot r record
    rw [← Option.some.inj is]
    exact ⟨groups ▸ few, continues.label short⟩
  | bar slot r r' record continues reserved barred groups =>
    refine law.withSlot (s.recordAt_lt slot r record) (fun x is => ?_) (Nat.le_refl _) (sixteen slot) (leaving slot)
    rw [← Option.some.inj is]
    exact ⟨groups ▸ Nat.zero_le 4, continues.label (law.records slot r record).2⟩
  | create slot r c inTable vacant fresh =>
    refine law.withSlot inTable (fun x is => ?_) List.eraseP_sublist.length_le rfl law.members
    rw [← Option.some.inj is]
    exact ⟨fresh.groups ▸ Nat.zero_le 4, fresh.label⟩
  | vacate slot r record =>
    exact law.withSlot (s.recordAt_lt slot r record) (fun x is => (by cases is)) (Nat.le_refl _) (sixteen slot) (leaving slot)
  | unqueue q fewer =>
    exact ⟨law.table, law.groups, Nat.le_trans fewer.length_le law.apq, law.members, law.records⟩
  | requeue q uids =>
    have same : q.length = s.ros.apq.length := by simpa using congrArg List.length uids
    exact ⟨law.table, law.groups, same ▸ law.apq, law.members, law.records⟩
  | queue i valid unknown unqueued room =>
    exact ⟨law.table, law.groups, (List.length_append).trans_le room, law.members, law.records⟩
  | unhold => exact ⟨law.table, law.groups, law.apq, law.members, law.records⟩
  | opens g flag =>
    refine ⟨law.table, (List.length_modify _ _ _).trans law.groups, law.apq, fun g' => ?_, law.records⟩
    refine Nat.le_trans (Nat.le_of_eq ?_) (law.members g')
    simp only [State.setGroups, List.getD_eq_getElem?_getD, List.getElem?_modify]
    cases s.ros.groups[g']? with
    | none => rfl
    | some x => by_cases here : g = g' <;> simp [here]

/-- One group's member list replaced by one that fits. -/
theorem modified_members (groups : List Group) (g g' : Nat) (ms : List Nat) (small : ms.length ≤ 24)
    (old : (groups.getD g' ⟨false, []⟩).members.length ≤ 24) :
    ((groups.modify g fun x => { x with members := ms }).getD g' ⟨false, []⟩).members.length ≤ 24 := by
  rw [List.getD_eq_getElem?_getD] at old ⊢
  rw [List.getElem?_modify]
  cases stands : groups[g']? with
  | none => exact Nat.zero_le _
  | some x =>
    rw [stands] at old
    by_cases here : g = g'
    · simpa [here] using small
    · simpa [here] using old

theorem State.Regroup.rosterSmall (regroup : s.Regroup t) (law : s.RosterSmall) : t.RosterSmall := by
  cases regroup with
  | join slot g r record notBarred known outside few room =>
    rw [s.joinGroup_eq slot g r record]
    refine law.withSlot (new := some { r with groups := r.groups ++ [g] }) (c := s.custody) (apq := s.ros.apq)
      (s.recordAt_lt slot r record) (fun x is => ?_) (Nat.le_refl _)
      (List.length_modify _ _ _) fun g' => modified_members _ _ _ _ ?_ (law.members g')
    · cases is
      exact ⟨(List.length_append).trans_le few, (law.records slot r record).2⟩
    · exact (List.length_append).trans_le room
  | leave slot g member =>
    have shrunk : ((s.group g).members.erase slot).length ≤ 24 := Nat.le_trans List.length_erase_le (law.members g)
    refine ⟨(s.leaveGroup_tableLength slot g).trans law.table, ?_, ?_, fun g' => ?_, fun i r record => ?_⟩
    · rw [s.leaveGroup_frame slot g]
      exact (List.length_modify _ _ _).trans law.groups
    · rw [s.leaveGroup_frame slot g]
      exact law.apq
    · rw [s.leaveGroup_frame slot g]
      exact modified_members _ _ _ _ shrunk (law.members g')
    · replace record : (s.leaveGroup slot g).recordAt i = some r := record
      rw [s.leaveGroup_recordAt, Option.map_eq_some_iff] at record
      obtain ⟨x, stands, rfl⟩ := record
      obtain ⟨few, short⟩ := law.records i x stands
      split
      · exact ⟨Nat.le_trans List.length_erase_le few, short⟩
      · exact ⟨few, short⟩

theorem rosterSmall_rosterLaw : RosterLaw State.RosterSmall where
  ofRoster ros law := by
    unfold State.RosterSmall
    rwa [ros]
  edit := State.Edit.rosterSmall
  regroup := State.Regroup.rosterSmall
  time {s t} n lowered law := by
    refine ⟨?_, ?_, ?_, ?_, fun i r record => ?_⟩
    · rw [lowered]; exact (List.length_map _).trans law.table
    · rw [lowered]; exact law.groups
    · rw [lowered]; exact (List.length_map _).trans_le law.apq
    · rw [lowered]; exact law.members
    · replace record : t.recordAt i = some r := record
      rw [State.lower_recordAt lowered, Option.map_eq_some_iff] at record
      obtain ⟨x, stands, rfl⟩ := record
      exact law.records i x stands
  empty {s} empty := by
    refine ⟨by rw [empty]; rfl, by rw [empty]; rfl, by rw [empty]; exact Nat.zero_le 8, fun g => ?_, fun i r record => ?_⟩
    · rw [empty]
      simp only [Roster.empty, List.getD_eq_getElem?_getD, List.getElem?_replicate]
      split <;> exact Nat.zero_le 24
    · replace record : s.recordAt i = some r := record
      rw [State.recordAt_empty empty] at record
      cases record

/-! ### The queues, the counters and the command unit -/

/-- The command in the slot has passed the check, and a result fits the result buffer (R170, R172). -/
def CmdUnit.Small (cu : CmdUnit) : Prop :=
  match cu with
  | .idle => True
  | .executing code args => commandOk code args = true
  | .ready r => r.payload.length ≤ 64 ∧ (r.code ≠ .done → r.payload = [])

/-- TXQ holds at most six frames, none of a payload above 48 bytes. -/
def TxqSmall (q : List Entry) : Prop := q.length ≤ 6 ∧ ∀ e ∈ q, e.frame.payload.length ≤ 48

/-- No counter passes 65 535 (R193). -/
def Cn.Small (c : Cn) : Prop := ∀ n ∈ c.counters.values, n ≤ 65535

theorem State.capacityLaw_iff : s.CapacityLaw ↔
    s.RosterSmall ∧ s.rxq.length ≤ 4 ∧ TxqSmall s.txq ∧ s.cn.Small ∧ s.cu.Small := by
  constructor
  · intro law
    have members := law.members
    have records (i : Nat) (r : Record) (record : s.recordAt i = some r) : r.Small := law.record record
    obtain ⟨table, groups, apq, rxq, txq, -, -, payloads, counters, cu⟩ := law
    exact ⟨⟨table, groups, apq, members, records⟩, rxq, ⟨txq, payloads⟩, counters, cu⟩
  · rintro ⟨⟨table, groups, apq, members, records⟩, rxq, ⟨txq, payloads⟩, counters, cu⟩
    refine ⟨table, groups, apq, rxq, txq, fun g _ => members g, fun r mem => ?_, payloads, counters, cu⟩
    obtain ⟨i, record⟩ := State.mem_occupied_iff.1 mem
    exact records i r record

theorem TxqSmall.enqueued {q : List Entry} (small : TxqSmall q) (room : q.length < 6) {e : Entry}
    (payload : e.frame.payload.length ≤ 48) : TxqSmall (q ++ [e]) := by
  refine ⟨(List.length_append).trans_le room, fun x mem => ?_⟩
  rcases List.mem_append.1 mem with old | new
  · exact small.2 x old
  · exact List.mem_singleton.1 new ▸ payload

theorem TxqSmall.erased {q : List Entry} (small : TxqSmall q) (i : Nat) : TxqSmall (q.eraseIdx i) :=
  ⟨Nat.le_trans (List.length_eraseIdx_le q i) small.1, fun e mem => small.2 e (List.mem_of_mem_eraseIdx mem)⟩

theorem TxqSmall.replaced {q : List Entry} (small : TxqSmall q) (i : Nat) {e : Entry}
    (payload : e.frame.payload.length ≤ 48) : TxqSmall (q.set i e) :=
  ⟨(List.length_set).trans_le small.1, fun x mem => (List.mem_or_eq_of_mem_set mem).elim (small.2 x) fun is => is ▸ payload⟩

theorem TxqSmall.marked {q : List Entry} (small : TxqSmall q) (i : Nat) : TxqSmall (markAttempt i q) := by
  unfold markAttempt
  refine ⟨(List.length_modify _ _ _).trans_le small.1, fun e mem => ?_⟩
  obtain ⟨j, inside, rfl⟩ := List.getElem_of_mem mem
  rw [List.getElem_modify]
  have inQueue : j < q.length := (List.length_modify _ _ _).symm.trans_gt inside
  have payload := small.2 q[j] (List.getElem_mem inQueue)
  split <;> exact payload

theorem Cn.Small.follows {c c' : Cn} (small : c.Small) (follows : c.Follows c') : c'.Small := follows.2 small

theorem Cn.Small.of_counters {c c' : Cn} (small : c.Small) (counters : c'.counters = c.counters) : c'.Small := by
  unfold Cn.Small
  rw [counters]
  exact small

/-- An edit sets change bits; it moves no counter. -/
theorem State.Edit.counters {moved : Option Nat} (edit : s.Edit moved t) : t.cn.counters = s.cn.counters := by
  cases edit <;> rfl

theorem State.Regroups.counters (regroups : s.Regroups t) : t.cn.counters = s.cn.counters := by
  induction regroups with
  | nil => rfl
  | cons s u v first _ ih =>
    obtain ⟨slot, groups, ⟨r, gs, -, rfl⟩ | rfl⟩ := first.onSlot
    · exact ih
    · exact ih

theorem State.Edited.counters {moved : Option Nat} (edited : s.Edited moved t) : t.cn.counters = s.cn.counters := by
  obtain ⟨u, edit, regroups⟩ := edited
  exact regroups.counters.trans edit.counters

theorem State.Edited.rosterSmall {moved : Option Nat} (edited : s.Edited moved t) (law : s.RosterSmall) : t.RosterSmall := by
  obtain ⟨u, edit, regroups⟩ := edited
  exact rosterSmall_rosterLaw.regroups regroups (edit.rosterSmall law)

theorem CmdUnit.Small.submitted {before after : CmdUnit} (small : before.Small) (unit : before.Submitted after) :
    after.Small := by
  rcases unit with rfl | rfl | ⟨code, args, rfl, ok⟩ | ⟨-, rfl⟩
  · exact small
  · exact trivial
  · exact ok
  · exact ⟨Nat.zero_le 64, fun _ => rfl⟩

theorem CmdUnit.small_done {payload : List Byte} (short : payload.length ≤ 64) : (CmdUnit.ready (done payload)).Small :=
  ⟨short, fun differs => absurd rfl differs⟩

theorem CmdUnit.small_result (x : ResultCode) : (CmdUnit.ready (result x)).Small := ⟨Nat.zero_le 64, fun _ => rfl⟩

/-! ### Requests and commands -/

/-- What of the capacity law is not the roster's. -/
structure State.RestSmall (s : State) : Prop where
  rxq : s.rxq.length ≤ 4
  txq : TxqSmall s.txq
  cn : s.cn.Small
  cu : s.cu.Small

theorem State.CapacityLaw.roster (law : s.CapacityLaw) : s.RosterSmall := (State.capacityLaw_iff.1 law).1

theorem State.CapacityLaw.rest (law : s.CapacityLaw) : s.RestSmall := by
  obtain ⟨-, rxq, txq, cn, cu⟩ := State.capacityLaw_iff.1 law
  exact ⟨rxq, txq, cn, cu⟩

theorem State.RestSmall.of_parts (small : s.RestSmall) (rxq : t.rxq = s.rxq) (txq : t.txq = s.txq)
    (cn : t.cn.counters = s.cn.counters) (cu : t.cu = s.cu) : t.RestSmall :=
  ⟨rxq ▸ small.rxq, txq ▸ small.txq, small.cn.of_counters cn, cu ▸ small.cu⟩

theorem State.TakesRequest.restSmall (takes : s.TakesRequest t) (law : s.CapacityLaw) : t.RestSmall := by
  have small := law.rest
  cases takes with
  | idle => exact small
  | took r rest t taking disposes =>
    have shorter : rest.length ≤ 4 := by
      have full := small.rxq
      rw [taking.2.1, List.length_cons] at full
      omega
    cases disposes with
    | discarded cn counted => exact ⟨shorter, small.txq, small.cn.follows counted, small.cu⟩
    | served t serves =>
      obtain ⟨v, cn, code, payload, edited, follows, short, rfl⟩ := serves
      have taken : State.CapacityLaw { s with rxq := rest } :=
        State.capacityLaw_iff.2 ⟨rosterSmall_rosterLaw.ofRoster rfl law.roster, shorter, small.txq, small.cn, small.cu⟩
      have counters : v.cn.Small := small.cn.of_counters edited.counters
      rw [edited.frame]
      exact ⟨shorter, small.txq.enqueued taking.2.2 (short taken), counters.follows follows, small.cu⟩

theorem State.Performs.restSmall {c : Instr} {o : Result × State} (performs : s.Performs c o) (law : s.CapacityLaw) :
    (o.2.setCu (.ready o.1)).RestSmall := by
  have small := law.rest
  cases performs with
  | refused x failed => exact ⟨small.rxq, small.txq, small.cn, CmdUnit.small_result x⟩
  | exhausted approve => exact ⟨small.rxq, small.txq, small.cn.follows (Cn.follows_setNotice _ _), CmdUnit.small_result _⟩
  | performed payload v short edited =>
    have counters : v.cn.Small := small.cn.of_counters edited.counters
    rw [edited.frame]
    exact ⟨small.rxq, small.txq, counters, CmdUnit.small_done (short law)⟩
  | offered payload v e short edited room unsent kind frame =>
    have counters : v.cn.Small := small.cn.of_counters edited.counters
    rw [edited.frame]
    exact ⟨small.rxq, small.txq.enqueued room frame, counters, CmdUnit.small_done short⟩
  | evicts slot v e edit room unsent kind frame =>
    have counters : v.cn.Small := small.cn.of_counters edit.counters
    rw [edit.frame]
    exact ⟨small.rxq, small.txq.enqueued room frame, counters, CmdUnit.small_done (Nat.zero_le 64)⟩

theorem State.RestSmall.advance (small : s.RestSmall) (d : Nat) : (s.advance d).RestSmall :=
  small.of_parts (s.advance_rxq d) (s.advance_txq d) (by rw [s.advance_cn d]) (s.advance_cu d)

theorem State.RestSmall.started (small : s.RestSmall) : s.startAttempt.RestSmall := by
  unfold State.startAttempt
  split
  next =>
    split
    · exact ⟨small.rxq, small.txq.marked _, small.cn, small.cu⟩
    · exact small
  next =>
    split
    · exact ⟨small.rxq, small.txq, small.cn, small.cu⟩
    · exact small

/-- The entry in the attempt is one of TXQ. -/
theorem State.attemptEntry_mem {i : Nat} {e : Entry} (entry : s.attemptEntry = some (i, e)) : e ∈ s.txq := by
  unfold State.attemptEntry at entry
  split at entry
  next =>
    obtain ⟨x, stands, is⟩ := Option.map_eq_some_iff.1 entry
    cases is
    exact List.mem_of_getElem? stands
  next => cases entry

theorem State.RestSmall.aborted (small : s.RestSmall) (a : Attempt) (b : Bool) : (s.abortAttempt a b).RestSmall := by
  obtain ⟨txq, ltx, completions, cn, is, follows⟩ := State.abortAttempt_transmits (s := s) a b
  have queue : TxqSmall (s.abortAttempt a b).txq := by
    unfold State.abortAttempt
    split
    next => exact small.txq
    next =>
      split
      next i e entry =>
        unfold State.abortEntry
        dsimp only
        split
        · exact small.txq.erased i
        · split
          · rw [State.raiseCompletion_frame]
            exact small.txq.erased i
          · exact small.txq.replaced i (small.txq.2 e (State.attemptEntry_mem entry))
      next => exact small.txq
  rw [is] at queue ⊢
  exact ⟨small.rxq, queue, small.cn.follows follows, small.cu⟩

theorem State.RestSmall.completed (small : s.RestSmall) (a : Attempt) : (s.completeAttempt a).RestSmall := by
  unfold State.completeAttempt
  split
  next => exact ⟨small.rxq, small.txq, small.cn, small.cu⟩
  next =>
    split
    next i e _ =>
      rw [State.raiseCompletion_frame]
      exact ⟨small.rxq, small.txq.erased i, small.cn, small.cu⟩
    next => exact ⟨small.rxq, small.txq, small.cn, small.cu⟩

theorem State.Receives.restSmall (receives : s.Receives t) (small : s.RestSmall) : t.RestSmall := by
  obtain ⟨lrx, x, rxq, cn, rfl, follows, grown⟩ := receives
  refine ⟨?_, small.txq, small.cn.follows follows, small.cu⟩
  rcases grown with rfl | ⟨r, rfl, room⟩
  · exact small.rxq
  · exact (List.length_append).trans_le room

theorem State.configure_restSmall (args : List Byte) (small : s.RestSmall) :
    ((s.configure args).2.setCu (.ready (s.configure args).1)).RestSmall := by
  unfold State.configure
  dsimp only
  split
  next x _ => exact ⟨small.rxq, small.txq, small.cn, CmdUnit.small_result x⟩
  next =>
    split
    · exact ⟨small.rxq, small.txq, small.cn, CmdUnit.small_done (Nat.zero_le 64)⟩
    · rw [State.changeRate_eq]
      exact ⟨small.rxq, small.txq, small.cn, CmdUnit.small_done (Nat.zero_le 64)⟩

/-! ### Every effect -/

theorem Effect.restSmall {c : Instr} (effect : Effect s c t) (law : s.CapacityLaw) : t.RestSmall := by
  have small := law.rest
  have advanced (d : Nat) : (s.advance d).RestSmall := small.advance d
  cases effect with
  | still => exact small
  | request _ _ takes => exact takes.restSmall law
  | command _ code args o serving performs => exact performs.restSmall law
  | expiry _ v cn edit follows =>
    have counters : cn.Small := Cn.Small.follows (small.cn.of_counters edit.counters) follows
    rw [edit.frame]
    exact ⟨small.rxq, small.txq, counters, small.cu⟩
  | completion slot pending _ released =>
    split at released
    next r record =>
      split at released
      next state =>
        have edit := State.releaseRecord_edit (s := s.setCompletions (s.completions.erase slot)) (moved := some slot) record
          (by simp [state, RecState.active]) (.inl rfl)
        rw [← released] at edit
        exact small.of_parts (by rw [edit.frame]; rfl) (by rw [edit.frame]; rfl) edit.counters (by rw [edit.frame]; rfl)
      next => rw [released]; exact small.of_parts rfl rfl rfl rfl
    next => rw [released]; exact small.of_parts rfl rfl rfl rfl
  | configure args => exact State.configure_restSmall args small
  | clearCounters =>
    exact ⟨small.rxq, small.txq, by simp [Cn.Small, Counters.values, Counters.zero], CmdUnit.small_done (Nat.zero_le 64)⟩
  | hold =>
    unfold State.hold
    split
    · exact ⟨small.rxq, small.txq, small.cn, CmdUnit.small_result _⟩
    · exact ⟨small.rxq, small.txq, small.cn, CmdUnit.small_done (Nat.zero_le 64)⟩
  | release args =>
    unfold State.release
    split
    · exact ⟨small.rxq, small.txq, small.cn, CmdUnit.small_result _⟩
    · exact ⟨small.rxq, small.txq, small.cn, CmdUnit.small_done (Nat.zero_le 64)⟩
  | rosterClear =>
    exact ⟨Nat.zero_le 4, ⟨Nat.zero_le 6, fun e mem => by cases mem⟩, small.cn.of_counters rfl,
      CmdUnit.small_done (Nat.zero_le 64)⟩
  | time _ d => exact advanced d
  | pinReset dt => exact ⟨(advanced dt).rxq, (advanced dt).txq, (advanced dt).cn, trivial⟩
  | resetRelease dt strap =>
    have zero : Cn.Small ⟨0, 0, 0, 0, none, Counters.zero⟩ := by simp [Cn.Small, Counters.values, Counters.zero]
    cases strap <;> exact ⟨Nat.zero_le 4, ⟨Nat.zero_le 6, fun e mem => (by cases mem)⟩, zero, trivial⟩
  | startUpEnd _ d => exact (advanced d).of_parts rfl rfl rfl rfl
  | port _ d hp cu cn counters unit =>
    exact ⟨(advanced d).rxq, (advanced d).txq, small.cn.of_counters counters, small.cu.submitted unit⟩
  | character _ w edge =>
    obtain ⟨d, receives⟩ := State.handCharacter_receives (s := s) w edge
    exact receives.restSmall (advanced d)
  | framingError _ w edge =>
    obtain ⟨d, receives⟩ := State.takeFramingError_receives (s := s) w edge
    exact receives.restSmall (advanced d)
  | gap _ d =>
    obtain ⟨cn, truncated, follows⟩ := (s.advance d).truncateFrame_frame
    rw [truncated]
    exact ⟨(advanced d).rxq, (advanced d).txq, (advanced d).cn.follows follows, (advanced d).cu⟩
  | startEdge _ d w =>
    obtain ⟨lrx, state, cn, settled, follows, -⟩ := (s.advance d).settleSilence_frame
    rw [settled]
    exact ⟨(advanced d).rxq, (advanced d).txq, (advanced d).cn.follows follows, (advanced d).cu⟩
  | silence _ d => exact (advanced d).of_parts rfl rfl rfl rfl
  | attempt _ d => exact (advanced d).started
  | abort _ d a b => exact (advanced d).aborted a b
  | complete _ d a => exact (advanced d).completed a
  | ready _ d => exact (advanced d).of_parts rfl rfl rfl rfl
  | cutEnd _ d => exact (advanced d).of_parts rfl rfl rfl rfl
  | deadline _ d i =>
    exact ⟨(advanced d).rxq, small.txq.erased i,
      (advanced d).cn.follows ((Cn.follows_late _).trans (Cn.follows_setNotice _ .answerLate)), (advanced d).cu⟩

theorem Effect.capacityLaw {c : Instr} (effect : Effect s c t) (law : s.CapacityLaw) : t.CapacityLaw := by
  obtain ⟨rxq, txq, cn, cu⟩ := effect.restSmall law
  exact State.capacityLaw_iff.2 ⟨rosterSmall_rosterLaw.effect effect law.roster, rxq, txq, cn, cu⟩

/-- Settles O8: the roster's capacities are a law of the roster, and the rest is by the effects. -/
theorem capacityLawKept : Obligations.CapacityLawKept := by
  unfold Obligations.CapacityLawKept
  intro s t law run
  rcases step_effect run with rfl | ⟨c, rest, -, effect⟩
  · exact law
  · have waiting : State.CapacityLaw { s with pending := rest } := law
    exact effect.capacityLaw waiting

end Sys2Proof.Machine

/-! PROOF. The step, the state after reset, and the passing of time (1.1, 3.1, 12.1). -/

namespace Sys2Proof.Machine

variable {s t : State}

/-- Settles O1: a step takes the command at the front of the queue. -/
theorem stepRunsTheFrontCommand : Obligations.StepRunsTheFrontCommand := by
  unfold Obligations.StepRunsTheFrontCommand
  exact fun _ _ _ => rfl

/-- Settles O2: the laws of the roster hold of the empty one, and the rest of the part is empty or at its defaults. -/
theorem resetKeepsTheLaws : Obligations.ResetKeepsTheLaws := by
  unfold Obligations.ResetKeepsTheLaws
  refine ⟨custodyLaw_rosterLaw.empty rfl, uidLaw_rosterLaw.empty rfl, groupLaw_rosterLaw.empty rfl, ?_,
    State.evictionLaw_empty rfl rfl rfl rfl, ?_, State.reset_configLaw, State.receptionLaw_empty rfl rfl⟩
  · exact State.capacityLaw_iff.2 ⟨rosterSmall_rosterLaw.empty rfl, Nat.zero_le 4,
      ⟨Nat.zero_le 6, fun e mem => (by cases mem)⟩, by simp [Cn.Small, State.reset, Counters.values, Counters.zero], trivial⟩
  · exact State.heldLaw_iff.2 ⟨(by decide : 0 < 14745600), fun is => (by cases is), fun _ => rfl⟩

/-! ### What the assembler decides (R122, R123) -/

/-- The bits that the assembler decides are the majorities of the samples. -/
theorem waveBits_majority (w : CharWave) (k : Nat) : (waveBits w).getLsbD k = majority w k := by
  simp only [waveBits, majority, BitVec.getLsbD_or, BitVec.getLsbD_and]

theorem waveReceived_eq (w : CharWave) (n : Nat) : waveReceived w n = receivedBits w n := by
  simp only [waveReceived, receivedBits, waveBits_majority]

theorem waveStartValid_eq (w : CharWave) : waveStartValid w = !majority w 0 := by
  rw [waveStartValid, waveBits_majority]

/-- The positions passed are those whose sample 9 has come. -/
theorem bitPosition_sub_one (rate edge now : Nat) : bitPosition rate edge now - 1 =
    min ((now - (edge + 8 * samplePeriods rate)) / (16 * samplePeriods rate)) 9 := by
  unfold bitPosition startDecision tBit
  generalize (now - (edge + 8 * samplePeriods rate)) / (16 * samplePeriods rate) = passed
  omega

/-! ### Time (3.1, 8.4) -/

theorem Lrx.settle_start (rate now edge : Nat) (w : CharWave) (l : Lrx) (start : l.chr = .start edge w) :
    l.settle rate now =
      if majority w 0 = false ∧ edge + 8 * samplePeriods rate ≤ now then
        { l with chr := .data edge w
                 bits := receivedBits w (min ((now - (edge + 8 * samplePeriods rate)) / (16 * samplePeriods rate)) 9) }
      else l := by
  unfold Lrx.settle
  rw [start]
  simp only [waveStartValid_eq, Bool.not_eq_true', waveReceived_eq, bitPosition_sub_one, startDecision]

theorem Lrx.settle_data (rate now edge : Nat) (w : CharWave) (l : Lrx) (data : l.chr = .data edge w) :
    l.settle rate now = { l with
      chr := .data edge w
      bits := receivedBits w (min ((now - (edge + 8 * samplePeriods rate)) / (16 * samplePeriods rate)) 9) } := by
  unfold Lrx.settle
  rw [data]
  simp only [waveReceived_eq, bitPosition_sub_one]

theorem Lrx.settle_waiting (rate now : Nat) (l : Lrx) (waiting : l.chr = .waiting) : l.settle rate now = l := by
  unfold Lrx.settle
  rw [waiting]

theorem Lrx.settle_frame (rate now : Nat) (l : Lrx) :
    l.settle rate now = { l with chr := (l.settle rate now).chr, bits := (l.settle rate now).bits } := by
  unfold Lrx.settle
  split
  · split <;> rfl
  · rfl
  · rfl

/-- The next character starts when the one before it has ended with its echo passed, and only then (R139, R142). -/
theorem settleAttempt_eq (rate now : Nat) (a : Attempt) : settleAttempt rate now a =
    if a.echo = some true ∧ a.index + 1 < a.bytes.length ∧ a.abortAtEnd = false ∧
        a.drive.start + 11 * a.drive.bit ≤ now then
      { a with index := a.index + 1, echo := none
               drive := ⟨a.bytes.getD (a.index + 1) 0, false, a.drive.start + 11 * a.drive.bit, tBit rate⟩ }
    else a := rfl

/-- The beacon timer in RUNNING (R146). -/
theorem Clocks.run_running (next d : Nat) (c : Clocks) :
    c.run .running next d = ⟨(c.phase + d) % 14745600, c.beacon.map (BeaconTimer.run next d)⟩ := rfl

theorem Clocks.makesBeaconDue_some {c : Clocks} {b : BeaconTimer} (runs : c.beacon = some b) (d : Nat) :
    c.makesBeaconDue .running d = decide (b.period ≤ b.elapsed + d) := by
  unfold Clocks.makesBeaconDue
  rw [runs]

theorem Clocks.makesBeaconDue_none {c : Clocks} (stopped : c.beacon = none) (mode : Mode) (d : Nat) :
    c.makesBeaconDue mode d = false := by
  unfold Clocks.makesBeaconDue
  rw [stopped]
  cases mode <;> rfl

/-- In RUNNING the clocks and the timers run. -/
theorem State.advance_running (out : s.inReset = false) (running : s.ctl.mode = .running) (d : Nat) :
    (s.advance d).clk = ⟨(s.clk.phase + d) % 14745600,
      s.clk.beacon.map (BeaconTimer.run (147456 * (s.cfg.beaconPeriod / 10)) d)⟩ ∧
    (s.advance d).ros = s.ros.lower ((s.clk.phase + d) / 14745600) ∧
    (s.advance d).ltx.beaconPending = (s.ltx.beaconPending || s.clk.makesBeaconDue .running d) := by
  rw [s.advance_eq d out, running]
  exact ⟨rfl, rfl, rfl⟩

/-- Settles O28: line time, the clocks, the assembler and LTX, each by its own rule. -/
theorem timeMovesTheClocks : Obligations.TimeMovesTheClocks := by
  unfold Obligations.TimeMovesTheClocks
  refine fun d s => ⟨s.advance_inReset d, fun out => ?_⟩
  have moved := s.advance_eq d out
  have lrx : (s.advance d).lrx = s.lrx.settle s.cfg.lineRate (s.now + d) := by rw [moved]
  have ltx : (s.advance d).ltx.state = settleLtx s.cfg.lineRate (s.now + d) s.ltx.state := by rw [moved]
  refine ⟨?_, by rw [moved]; rfl, s.advance_held d, fun running => ?_, fun waiting => ?_, fun e w => ⟨fun start => ?_, fun data => ?_⟩,
    fun a sending echo more going finished => ?_, fun a sending stays => ?_, fun idle => ?_⟩
  · rw [moved]
    have frame := Lrx.settle_frame s.cfg.lineRate (s.now + d) s.lrx
    dsimp only
    rw [← frame]
  · obtain ⟨clk, ros, due⟩ := State.advance_running out running d
    rw [clk, ros, due]
    refine ⟨rfl, rfl, fun stopped => ?_, fun b runs => ⟨fun within => ?_, fun complete => ?_⟩⟩
    · rw [Clocks.makesBeaconDue_none stopped, Bool.or_false, stopped]
      exact ⟨rfl, rfl⟩
    · rw [Clocks.makesBeaconDue_some runs, decide_eq_false (by omega), Bool.or_false, runs]
      exact ⟨congrArg some (if_pos within), rfl⟩
    · rw [Clocks.makesBeaconDue_some runs, decide_eq_true complete, Bool.or_true, runs]
      exact ⟨congrArg some (if_neg (by omega)), rfl⟩
  · rw [lrx, Lrx.settle_waiting _ _ _ waiting]
  · rw [lrx, Lrx.settle_start _ _ e w _ start]
    refine ⟨fun valid decided => if_pos ⟨valid, decided⟩, fun undecided => if_neg fun both => ?_⟩
    obtain ⟨valid, decided⟩ := both
    rcases undecided with invalid | early
    · rw [valid] at invalid
      cases invalid
    · omega
  · rw [lrx, Lrx.settle_data _ _ e w _ data]
  · rw [ltx, sending]
    exact congrArg LtxState.sending ((settleAttempt_eq _ _ a).trans (if_pos ⟨echo, more, going, finished⟩))
  · rw [ltx, sending]
    refine congrArg LtxState.sending ((settleAttempt_eq _ _ a).trans (if_neg ?_))
    rintro ⟨echo, more, going, finished⟩
    rcases stays with silent | last | aborted | early
    · exact silent echo
    · omega
    · rw [going] at aborted
      cases aborted
    · omega
  · rw [ltx, settleLtx_of_not_sending _ _ _ idle]

/-- The second event lowers a hold-down item, or counts against it when it has expired (R24, R60). -/
theorem HoldItem.lower_one (i : HoldItem) : i.lower 1 =
    if i.remaining = 0 then { i with overdue := i.overdue + 1 } else { i with remaining := i.remaining - 1 } := by
  unfold HoldItem.lower
  split
  next expired => simp [expired]
  next running =>
    have none : 1 - i.remaining = 0 := by omega
    simp [none]

/-- Settles O29: CLKIN runs to the end of the second, which is one second event. -/
theorem secondEventLowersEveryTimer : Obligations.SecondEventLowersEveryTimer := by
  unfold Obligations.SecondEventLowersEveryTimer
  refine fun s out => ⟨fun running within => ?_, fun held => ?_⟩
  · obtain ⟨clk, ros, -⟩ := State.advance_running out running (14745600 - s.clk.phase)
    have full : s.clk.phase + (14745600 - s.clk.phase) = 14745600 := by omega
    rw [full] at clk ros
    refine ⟨?_, by rw [clk], ?_⟩
    · show execSecondEvent s = _
      unfold execSecondEvent
      rw [out, running]
      rfl
    · rw [ros]
      have items : HoldItem.lower 1 = fun i =>
          if i.remaining = 0 then { i with overdue := i.overdue + 1 } else { i with remaining := i.remaining - 1 } :=
        funext HoldItem.lower_one
      show s.ros.lower 1 = _
      unfold Roster.lower
      rw [items]
      rfl
  · show execSecondEvent s = _
    unfold execSecondEvent
    rw [out, held]

end Sys2Proof.Machine

/-! PROOF. Expiries and completions (chapters 2 to 5), pin reset and start-up (12.1), and the lookups, claims and
assignments of chapter 1. -/

namespace Sys2Proof.Machine

variable {s t : State} {slot : Nat}

/-! ### Expiries (R64 to R67, R81, R99) -/

/-- The first element that passes a test, taken out from where it stands. -/
theorem eraseP_at {α : Type} {p : α → Bool} {before after : List α} {x : α} (passes : p x = true)
    (fail : ∀ y ∈ before, p y = false) : (before ++ x :: after).eraseP p = before ++ after := by
  have kept : ∀ y ∈ before, ¬ p y = true := fun y mem => by simp [fail y mem]
  rw [List.eraseP_append_right _ kept, List.eraseP_cons_of_pos passes]

/-- An expiry whose timer has reached 0 in its record's state is served. -/
theorem State.serveExpiry_due {r : Record} {st : RecState} {act : Record → State → State} (out : s.inReset = false)
    (record : s.recordAt slot = some r) (state : r.state = st) (due : r.remaining = some 0) :
    s.serveExpiry slot st act = act r s := by
  unfold State.serveExpiry
  rw [out, record]
  exact (if_neg Bool.false_ne_true).trans (if_pos ⟨state, due⟩)

theorem State.evictionCompletion_runs {r : Record} {a : Nat} (out : s.inReset = false) (record : s.recordAt slot = some r)
    (holds : r.address = some a) (state : r.state = .evicting) (pending : slot ∈ s.completions) :
    Runs (.evictionCompletion slot) s { s with
      ros := s.ros.released s.cfg.holdTime slot r a
      cn := s.cn.marked slot
      completions := s.completions.erase slot } := by
  show execEvictionCompletion slot s = _
  unfold execEvictionCompletion
  rw [if_neg (by simp [out, pending])]
  have stands : (s.setCompletions (s.completions.erase slot)).recordAt slot = some r := record
  dsimp only
  rw [stands]
  dsimp only
  rw [if_pos state, State.releaseRecord_eq _ slot a r holds]
  rfl

theorem State.holdDownExpiry_due {before after : List HoldItem} {i : HoldItem} (out : s.inReset = false)
    (split : s.ros.hold = before ++ i :: after) (expired : i.remaining = 0) (first : ∀ j ∈ before, j.address ≠ i.address)
    (turn : ∀ j ∈ s.ros.hold, j.remaining = 0 → j.overdue ≤ i.overdue) :
    Runs (.holdDownExpiry i.address) s
      { s with ros := { s.ros with hold := before ++ after, free := s.ros.free ++ [i.address] } } := by
  have due : expiredHold i.address s.ros.hold i = true := by
    simp only [expiredHold, expired, beq_self_eq_true, Bool.true_and, List.all_eq_true, Bool.or_eq_true, bne_iff_ne,
      decide_eq_true_eq]
    exact fun j mem => or_iff_not_imp_left.2 fun zero => turn j mem (not_not.1 zero)
  have others : ∀ j ∈ before, expiredHold i.address s.ros.hold j = false := fun j mem => by
    simp [expiredHold, beq_false_of_ne (first j mem)]
  have member : i ∈ s.ros.hold := split ▸ List.mem_append_right _ List.mem_cons_self
  show execHoldDownExpiry i.address s = _
  unfold execHoldDownExpiry
  rw [if_neg (by simp [out]), if_pos (List.any_eq_true.2 ⟨i, member, due⟩)]
  have erased := eraseP_at (after := after) due others
  rw [← split] at erased
  rw [erased]
  rfl

theorem State.holdDownExpiry_early {a : Nat} (out : s.inReset = false)
    (waits : ∀ i ∈ s.ros.hold, i.address = a → i.remaining = 0 →
      ∃ j ∈ s.ros.hold, j.remaining = 0 ∧ i.overdue < j.overdue) : Runs (.holdDownExpiry a) s s := by
  show execHoldDownExpiry a s = _
  unfold execHoldDownExpiry
  rw [if_neg (by simp [out])]
  refine if_neg fun due => ?_
  obtain ⟨i, mem, passes⟩ := List.any_eq_true.1 due
  simp only [expiredHold, Bool.and_eq_true, beq_iff_eq, List.all_eq_true, Bool.or_eq_true, bne_iff_ne,
    decide_eq_true_eq] at passes
  obtain ⟨⟨address, expired⟩, turn⟩ := passes
  obtain ⟨j, waiting, zero, earlier⟩ := waits i mem address expired
  have := (turn j waiting).resolve_left (not_not.2 zero)
  omega

theorem State.approvalExpiry_due {before after : List ApqItem} {i : ApqItem} (out : s.inReset = false)
    (split : s.ros.apq = before ++ i :: after) (expired : i.remaining = 0) (first : ∀ j ∈ before, j.uid ≠ i.uid) :
    Runs (.approvalExpiry i.uid) s { s with ros := { s.ros with apq := before ++ after }, cn := s.cn.noticed 1 } := by
  have due : expiredItem i.uid i = true := by simp [expiredItem, expired]
  have others : ∀ j ∈ before, expiredItem i.uid j = false := fun j mem => by
    simp [expiredItem, beq_false_of_ne (first j mem)]
  have member : i ∈ s.ros.apq := split ▸ List.mem_append_right _ List.mem_cons_self
  show execApprovalExpiry i.uid s = _
  unfold execApprovalExpiry
  rw [if_neg (by simp [out]), if_pos (List.any_eq_true.2 ⟨i, member, due⟩)]
  have erased := eraseP_at (after := after) due others
  rw [← split] at erased
  rw [erased]
  rfl

/-- Settles O30: an expiry acts on the record whose timer is 0, or on the item that is due. -/
theorem expiriesAndCompletionsTakeEffect : Obligations.ExpiriesAndCompletionsTakeEffect := by
  unfold Obligations.ExpiriesAndCompletionsTakeEffect
  refine ⟨fun slot s rd a out record holds => ?_, fun s before after i out => State.holdDownExpiry_due out,
    fun s a out => State.holdDownExpiry_early out, fun s before after i out => State.approvalExpiry_due out⟩
  have served {st : RecState} {act : Record → State → State} (state : rd.state = st) (due : rd.remaining = some 0) :
      Host.Outcome.next (s.serveExpiry slot st act) = (.next (act rd s) : Host.Outcome State Fault Refusal) :=
    congrArg _ (State.serveExpiry_due out record state due)
  refine ⟨fun state due => ?_, fun state due => ?_, fun state due => ?_, State.evictionCompletion_runs out record holds⟩
  · rw [← State.releaseRecord_eq s slot a rd holds]
    exact served state due
  · rw [← State.releaseRecord_eq s slot a rd holds]
    exact served state due
  · rw [← State.releaseRecord_eq s slot a rd holds]
    exact served state due

/-! ### Pin reset and start-up (12.1) -/

/-- In the start-up interval no transaction begins, and a part of one that has not begun does nothing (R196). -/
theorem State.transaction_ignored (notReady : s.portReady = false) (none : s.hp.txn = none) (code : Byte)
    (prepare : Prepare) (finish : Txn → State → State) (phase : PortPhase) :
    s.transaction code prepare finish phase = s := by
  unfold State.transaction
  cases phase with
  | select => dsimp only; unfold State.portSelect; rw [notReady]; rfl
  | code => dsimp only; unfold State.portCode; rw [none]
  | clock bytes => dsimp only; unfold State.portClock; rw [none]
  | deselect => dsimp only; unfold State.portDeselect; rw [none]
  | whole bytes => dsimp only; rw [notReady]; rfl

/-- The start-up interval lasts until its end is reached. -/
theorem State.advance_starting (out : s.inReset = false) (starting : s.startUp = true) {d : Nat} (before : s.now + d < 29491) :
    (s.advance d).portReady = false := by
  rw [s.advance_eq d out]
  simp [State.portReady, starting, startUpLimit, before]

theorem Params.default_eq : Params.default =
    { leaseTime := 300, graceTime := 30, offerTime := 3, holdTime := 60, approveTime := 60, beaconPeriod := 250,
      joinSlots := 4, policy := .openAll, adoption := true, txAttempts := 3, conflictLimit := 4, lineRate := 4,
      noticeEnable := 0x1FF#9 } := by decide

/-- Settles O31: what reset withdraws, what start-up ignores, and the stores' contents after the release. -/
theorem pinResetReleaseAndStartUp : Obligations.PinResetReleaseAndStartUp := by
  unfold Obligations.PinResetReleaseAndStartUp
  refine ⟨fun dt s => ⟨?_, rfl, rfl, rfl, rfl⟩, fun dt s out starting => ⟨?_, ?_⟩, fun dt strap s inReset => ?_⟩
  · show execPinReset dt s = _
    unfold execPinReset State.enterReset
    rw [s.advance_hp]
  · show execStartUpEnd dt s = _
    unfold execStartUpEnd
    rw [out, starting]
    rfl
  · intro before idle bytes phase _
    have notReady := State.advance_starting out starting before
    have quiet : (s.advance dt).hp.txn = none := by rw [s.advance_hp, idle]
    have ignored (code : Byte) (prepare : Prepare) (finish : Txn → State → State) :
        Host.Outcome.next ((s.advance dt).transaction code prepare finish phase) =
          (.next (s.advance dt) : Host.Outcome State Fault Refusal) :=
      congrArg _ (State.transaction_ignored notReady quiet code prepare finish phase)
    refine ⟨ignored _ _ _, ignored _ _ _, ignored _ _ _, ignored _ _ _, ignored _ _ _, fun code other => ?_⟩
    show execUnknownTransaction dt code phase s = _
    unfold execUnknownTransaction
    rw [if_pos other]
    exact ignored _ _ _
  · show execResetRelease dt strap s = _
    unfold execResetRelease
    rw [if_pos inReset, ← Roster.empty_eq, ← Params.default_eq]
    cases strap <;> rfl

/-! ### Lookups (1.1, 1.4, 1.5) -/

/-- What the elements of a list yield, none twice, tells their places apart. -/
theorem filterMap_place_unique {α β : Type} (f : α → Option β) {l : List α} (once : (l.filterMap f).Nodup) {b : β} {i j : Nat}
    {x y : α} (first : l[i]? = some x) (second : l[j]? = some y) (left : f x = some b) (right : f y = some b) : i = j := by
  rw [List.Nodup, List.pairwise_filterMap, List.pairwise_iff_getElem] at once
  have apart {m n : Nat} {u v : α} (one : l[m]? = some u) (other : l[n]? = some v) (yields : f u = some b)
      (yields' : f v = some b) : ¬ m < n := by
    obtain ⟨inM, rfl⟩ := List.getElem?_eq_some_iff.1 one
    obtain ⟨inN, rfl⟩ := List.getElem?_eq_some_iff.1 other
    exact fun below => once m n inM inN below b yields b yields' rfl
  have := apart first second left right
  have := apart second first right left
  omega

theorem State.UidLaw.unique (law : s.UidLaw) {i j : Nat} {x y : Record} (first : s.recordAt i = some x)
    (second : s.recordAt j = some y) (same : x.uid = y.uid) : i = j := by
  have once := (List.nodup_append.1 law.1).1
  rw [occupied_uids] at once
  have stands {k : Nat} {r : Record} (record : s.recordAt k = some r) : s.ros.table[k]? = some (some r) := by
    rw [State.getElem?_table (s.recordAt_lt k r record), record]
  exact filterMap_place_unique _ once (stands first) (stands second) (congrArg some same) rfl

/-- The record that carries a UID is found (R18). -/
theorem State.UidLaw.findUid (law : s.UidLaw) {r : Record} (record : s.recordAt slot = some r) :
    s.findUid r.uid = some (slot, r) := by
  cases found : s.findUid r.uid with
  | none => simpa using s.findRecord_none _ found slot r record
  | some entry =>
    obtain ⟨slot', r'⟩ := entry
    obtain ⟨record', own⟩ := s.findUid_some r.uid slot' r' found
    obtain rfl := law.unique record' record own
    rw [record] at record'
    rw [Option.some.inj record']

/-- Settles O15: a lookup finds a record that fits, and the laws leave no other. -/
theorem lookupsAreExact : Obligations.LookupsAreExact := by
  unfold Obligations.LookupsAreExact
  refine ⟨fun s u slot r law => ⟨s.findUid_some u slot r, ?_⟩, fun s a slot r law => ⟨s.findAddr_some a slot r, ?_⟩,
    fun s slot => ⟨s.vacantSlot_some slot, ?_⟩⟩
  · rintro ⟨record, rfl⟩
    exact law.findUid record
  · rintro ⟨record, holds⟩
    exact s.findAddr_of_holder (List.nodup_append.1 law.nodup).2.1 slot a r record holds
  · rintro ⟨inTable, vacant, lower⟩
    refine List.findIdx?_eq_some_iff_getElem.2 ⟨inTable, ?_, fun i below => ?_⟩
    · have stands := State.getElem?_table inTable
      rw [vacant, List.getElem?_eq_getElem inTable] at stands
      rw [Option.some.inj stands]
      rfl
    · have inside : i < s.ros.table.length := Nat.lt_trans below inTable
      have stands := State.getElem?_table inside
      rw [List.getElem?_eq_getElem inside] at stands
      rw [Option.some.inj stands, Option.isNone_iff_eq_none, ← ne_eq, ← Option.isSome_iff_ne_none]
      exact lower i below

/-! ### Claims and assignments (1.6, 1.7) -/

/-- A claim takes the remembered address out of its item (R25). -/
theorem claim_remembered {a : Nat} {u : Uid} {free : List Nat} {before after : List HoldItem} {i : HoldItem}
    (notFree : a ∉ free) (address : i.address = a) (uid : i.uid = u) (first : ∀ j ∈ before, j.address ≠ a) :
    claim a u (free, before ++ i :: after) = some (free, before ++ after) := by
  have passes : (i.address == a && i.uid == u) = true := by simp [address, uid]
  have others : ∀ j ∈ before, (j.address == a && j.uid == u) = false := fun j mem => by
    simp [beq_false_of_ne (first j mem)]
  unfold claim
  rw [if_neg notFree, if_pos (List.any_eq_true.2 ⟨i, by simp, passes⟩)]
  exact congrArg (fun hold => some (free, hold)) (eraseP_at (p := fun i : HoldItem => i.address == a && i.uid == u) passes others)

/-- The oldest item that remembers the UID gives its address (R26). -/
theorem assign_remembered {u : Uid} {p : Nat} {free : List Nat} {before after : List HoldItem} {i : HoldItem}
    (uid : i.uid = u) (first : ∀ j ∈ before, j.uid ≠ u) :
    assign none u p (free, before ++ i :: after) = some (i.address, (free, before ++ after)) := by
  have passes : (i.uid == u) = true := by simp [uid]
  have others : ∀ j ∈ before, (j.uid == u) = false := fun j mem => beq_false_of_ne (first j mem)
  have found : (before ++ i :: after).find? (fun i => i.uid == u) = some i := by
    rw [List.find?_append, List.find?_eq_none.2 (fun j mem => by simp [others j mem]), List.find?_cons, passes]
    rfl
  unfold assign
  simp only [found, eraseP_at (after := after) passes others]

/-- Settles O16: by the places an address can be claimed from, and the steps of the order. -/
theorem claimAndAssignmentOrder : Obligations.ClaimAndAssignmentOrder := by
  unfold Obligations.ClaimAndAssignmentOrder
  refine ⟨fun a u free hold => ⟨fun isFree => if_pos isFree, ?_, fun notFree foreign => ?_⟩,
    fun u p free hold => ⟨fun a => rfl, ?_, fun unknown => ?_⟩⟩
  · rintro before after i notFree rfl address uid first
    exact claim_remembered notFree address uid first
  · have none : hold.any (fun i => i.address == a && i.uid == u) = false := by
      simpa using foreign
    unfold claim
    rw [if_neg notFree]
    simp only [none, Bool.false_eq_true, if_false]
  · rintro before after i rfl uid first
    exact assign_remembered uid first
  · have none : hold.find? (fun i => i.uid == u) = none := List.find?_eq_none.2 (by simpa using unknown)
    refine ⟨fun low high isFree => ?_, fun notPreferred => ?_⟩
    · have preferred : (assignable p && decide (p ∈ free)) = true := by simp [assignable_iff, low, high, isFree]
      unfold assign
      simp only [none, preferred, if_true]
    · have other : (assignable p && decide (p ∈ free)) = false := by
        rw [Bool.and_eq_false_iff, ← Bool.not_eq_true, assignable_iff, decide_eq_false_iff_not]
        rcases notPreferred with low | high | notFree
        · exact .inl (by omega)
        · exact .inl (by omega)
        · exact .inr notFree
      unfold assign
      simp only [none, other, Bool.false_eq_true, if_false]
      refine ⟨?_, ?_⟩
      · rintro a rest rfl
        rfl
      · rintro rfl
        rfl

end Sys2Proof.Machine

/-! PROOF. Taking a request (9.1, 9.2): which command takes it, what its admission decides, and how it is answered. -/

namespace Sys2Proof.Machine

variable {s t : State} {r : Request} {b : Bool}

/-! ### The command that takes a request (R155) -/

/-- The kind of request that the command taking a code takes, and its owning rule. -/
structure TakenBy (code : Byte) (b : Bool) (kind : Byte → Bool) (serve : Request → State → State) : Prop where
  owner : ServesKind kind serve
  own : kind code = true
  badUid : code.toNat ≤ 4 → requestLength code ≠ none → ∀ (r : Request) (s : State), validUid r.uid = false →
    serve r s = s.refuse r .badUid
  runs : ∀ s, exec (takerOf code b) s = .next (s.takeRequest kind b serve)

/-- Every code has a command that takes its requests (R155). -/
theorem takerOf_takenBy (code : Byte) (b : Bool) : ∃ kind serve, TakenBy code b kind serve := by
  have is {n : Byte} (same : code.toNat = n.toNat) : code = n := BitVec.eq_of_toNat_eq same
  cases length : requestLength code with
  | none =>
    refine ⟨fun c => (requestLength c).isNone, fun r s => s.refuse r .unsupported,
      .ofRunning fun _ _ _ => State.serves_refuse _, by rw [length]; rfl, fun _ known => absurd length known, fun s => ?_⟩
    have taker : takerOf code b = .unsupportedRequest b := by
      unfold requestLength at length
      unfold takerOf
      split
      iterate 10 next known => rw [known] at length; cases length
      next => rfl
    rw [taker]
    rfl
  | some n =>
    unfold requestLength at length
    split at length
    next same =>
      obtain rfl : code = 0x01 := is same
      exact ⟨_, _, .ofRunning fun _ _ running => State.serveJoin_serves running, rfl, fun _ _ _ _ bad => if_pos bad, fun _ => rfl⟩
    next same =>
      obtain rfl : code = 0x02 := is same
      exact ⟨_, _, .ofRunning fun _ _ running => State.serveConfirm_serves running, rfl, fun _ _ _ _ bad => if_pos bad, fun _ => rfl⟩
    next same =>
      obtain rfl : code = 0x03 := is same
      exact ⟨_, _, .ofRunning fun _ _ running => State.serveRenew_serves running, rfl, fun _ _ _ _ bad => if_pos bad, fun _ => rfl⟩
    next same =>
      obtain rfl : code = 0x04 := is same
      exact ⟨_, _, .ofRunning fun _ _ running => State.serveLeave_serves running, rfl, fun _ _ _ _ bad => if_pos bad, fun _ => rfl⟩
    next same =>
      obtain rfl : code = 0x10 := is same
      exact ⟨_, _, .ofRunning fun _ _ _ => State.serveResolve_serves, rfl, fun low => absurd low (by decide), fun _ => rfl⟩
    next same =>
      obtain rfl : code = 0x11 := is same
      exact ⟨_, _, .ofRunning fun _ _ _ => State.serveIdentify_serves, rfl, fun low => absurd low (by decide), fun _ => rfl⟩
    next same =>
      obtain rfl : code = 0x12 := is same
      exact ⟨_, _, .ofRunning fun _ _ _ => State.serveGroupList_serves, rfl, fun low => absurd low (by decide), fun _ => rfl⟩
    next same =>
      obtain rfl : code = 0x13 := is same
      exact ⟨_, _, .ofRunning fun _ _ _ => State.serveInfo_serves, rfl, fun low => absurd low (by decide), fun _ => rfl⟩
    next same =>
      obtain rfl : code = 0x20 := is same
      exact ⟨_, _, .ofCode rfl fun _ _ => State.serveSubscribe_serves, rfl, fun low => absurd low (by decide), fun _ => rfl⟩
    next same =>
      obtain rfl : code = 0x21 := is same
      exact ⟨_, _, .ofRunning fun _ _ _ => State.serveUnsubscribe_serves, rfl, fun low => absurd low (by decide), fun _ => rfl⟩
    next => cases length

/-! ### What TC decides (R152) -/

/-- A source that cannot be answered (R153). -/
def Request.Unanswerable (r : Request) : Prop := r.source = 0 ∨ r.source = 62 ∨ r.source = 63

theorem State.decideRequest_late {serve : Request → State → State} (late : ¬ InTime b r s) :
    s.decideRequest b serve r = s.noteLate := by
  have passed : deadlinePassed r.deadline s.now b = true := by
    rw [← Bool.not_eq_false, deadlinePassed_eq_false]
    exact late
  simp only [State.decideRequest, State.admission, passed, if_true]

theorem State.decideRequest_unanswerable {serve : Request → State → State} (inTime : InTime b r s)
    (source : r.Unanswerable) : s.decideRequest b serve r = s.countMalformed := by
  have notPassed := (deadlinePassed_eq_false r.deadline s.now b).2 inTime
  have is : r.source = 0 ∨ r.source = 62 ∨ r.source = 63 := source
  simp only [State.decideRequest, State.admission, notPassed, Bool.false_eq_true, if_false, is, if_true]

/-- Checks 2 to 6 for a request in time, of a source that can be answered (R152). -/
theorem State.decideRequest_checks {serve : Request → State → State} (inTime : InTime b r s) (source : ¬ r.Unanswerable) :
    s.decideRequest b serve r =
      if s.ctl.mode = .held then s.wait r 1
      else if requestLength r.code = none then s.refuse r .unsupported
      else if requestLength r.code ≠ some r.payload.length then s.refuse r .malformed
      else if r.source = 61 ∧ r.code ≠ 0x01 then s.refuse r .notBound
      else if lookupOrGroupCode r.code = true ∧ s.boundSource r.source = false then s.refuse r .notBound
      else serve r s := by
  have notPassed := (deadlinePassed_eq_false r.deadline s.now b).2 inTime
  have good : ¬ (r.source = 0 ∨ r.source = 62 ∨ r.source = 63) := source
  unfold State.decideRequest State.admission
  rw [notPassed, if_neg Bool.false_ne_true, if_neg good]
  split_ifs <;> rfl

/-- A request in time from a source that can be answered gets exactly one answer. -/
theorem State.decideRequest_serves {kind : Byte → Bool} {serve : Request → State → State} (owner : ServesKind kind serve)
    (isKind : kind r.code = true) (inTime : InTime b r s) (source : ¬ r.Unanswerable) :
    s.Serves r (s.decideRequest b serve r) := by
  rw [State.decideRequest_checks inTime source]
  split
  next => exact State.Edit.same.edited.serves_wait r 1
  next running =>
    split
    next => exact State.serves_refuse _
    next =>
      split
      next => exact State.serves_refuse _
      next =>
        split
        next => exact State.serves_refuse _
        next =>
          split
          next => exact State.serves_refuse _
          next bound =>
            refine owner r s isKind ?_ fun lookup => by simpa [lookup] using bound
            cases mode : s.ctl.mode with
            | held => exact absurd mode running
            | running => rfl

theorem State.Serves.txq (serves : s.Serves r t) : ∃ code payload, t.rxq = s.rxq ∧
    t.txq = s.txq ++ [answered r (if r.code = 0x01 then 61 else r.source) code payload] := by
  obtain ⟨v, cn, code, payload, edited, -, -, rfl⟩ := serves
  exact ⟨code, payload, by rw [edited.frame]; rfl, by rw [edited.frame]; rfl⟩

/-- Settles O17: late, unanswerable or answered, by the first checks. -/
theorem takenRequestIsAnsweredOnce : Obligations.TakenRequestIsAnsweredOnce := by
  unfold Obligations.TakenRequestIsAnsweredOnce
  intro b r rest s taking
  obtain ⟨kind, serve, taker⟩ := takerOf_takenBy r.code b
  refine ⟨({ s with rxq := rest } : State).decideRequest b serve r, ?_, ?_⟩
  · exact (taker.runs s).trans (congrArg _ (State.takeRequest_taking r s kind b serve rest taking taker.own))
  · by_cases inTime : InTime b r s
    · rw [if_neg (not_not.2 inTime)]
      by_cases source : r.Unanswerable
      · have is : r.source = 0 ∨ r.source = 62 ∨ r.source = 63 := source
        rw [State.decideRequest_unanswerable (s := { s with rxq := rest }) inTime source, if_pos is]
        exact ⟨rfl, rfl⟩
      · have good : ¬ (r.source = 0 ∨ r.source = 62 ∨ r.source = 63) := source
        rw [if_neg good]
        obtain ⟨code, payload, rxq, txq⟩ := State.Serves.txq
          (State.decideRequest_serves (s := { s with rxq := rest }) (b := b) taker.owner taker.own inTime source)
        exact ⟨rxq, code, payload, txq⟩
    · rw [if_pos inTime, State.decideRequest_late (s := { s with rxq := rest }) inTime]
      exact ⟨rfl, rfl⟩

/-! ### The answers of the admission (R155 to R162) -/

theorem requestLength_iff (code : Byte) (n : Nat) : requestLength code = some n ↔
    (code.toNat, n) ∈ [(0x01, 8), (0x02, 6), (0x03, 6), (0x04, 6), (0x10, 6), (0x11, 1), (0x12, 1), (0x13, 0), (0x20, 1),
      (0x21, 1)] := by
  unfold requestLength
  split
  iterate 10 next same => simp [same, eq_comm]
  next =>
    simp only [List.mem_cons, Prod.mk.injEq, List.not_mem_nil, or_false, reduceCtorEq, false_iff]
    tauto

/-- A life-cycle payload of the right length begins with the sender's UID. -/
theorem uidBytes_of_lifeCycle (code : lifeCycleCode r.code = true) (length : requestLength r.code = some r.payload.length) :
    uidBytes r.uid = r.payload.take 6 := by
  refine uidBytes_uidAt r.payload ?_
  have known := (requestLength_iff r.code r.payload.length).1 length
  simp only [lifeCycleCode, Bool.and_eq_true, decide_eq_true_eq] at code
  simp only [List.mem_cons, Prod.mk.injEq, List.not_mem_nil, or_false] at known
  omega

/-- What an answer to 61 leads with (R159). -/
theorem leadUid_eq : leadUid r =
    if answerDest r = 61 ∧ 1 ≤ r.code.toNat ∧ r.code.toNat ≤ 4 ∧ requestLength r.code = some r.payload.length
    then r.payload.take 6 else [] := by
  unfold leadUid
  have lifeCycle : lifeCycleCode r.code = true ↔ 1 ≤ r.code.toNat ∧ r.code.toNat ≤ 4 := by simp [lifeCycleCode]
  split
  next led =>
    obtain ⟨dest, code, length⟩ := led
    rw [if_pos ⟨dest, (lifeCycle.1 code).1, (lifeCycle.1 code).2, length⟩, uidBytes_of_lifeCycle code length]
  next notLed =>
    rw [if_neg]
    rintro ⟨dest, low, high, length⟩
    exact notLed ⟨dest, lifeCycle.2 ⟨low, high⟩, length⟩

/-- A code that the roster serves is a lookup's or a group request's from 0x10 on (R158). -/
theorem lookupOrGroupCode_iff (known : requestLength r.code ≠ none) :
    lookupOrGroupCode r.code = true ↔ 0x10 ≤ r.code.toNat := by
  obtain ⟨n, length⟩ := Option.ne_none_iff_exists'.1 known
  have row := (requestLength_iff r.code n).1 length
  simp only [lookupOrGroupCode, length, Option.isSome_some, Bool.true_and, lifeCycleCode, Bool.not_eq_true',
    Bool.and_eq_false_iff, decide_eq_false_iff_not]
  simp only [List.mem_cons, Prod.mk.injEq, List.not_mem_nil, or_false] at row
  omega

/-- Settles O18: the checks in their order, and a life-cycle request's own check of its UID. -/
theorem admissionAnswers : Obligations.AdmissionAnswers := by
  unfold Obligations.AdmissionAnswers
  refine ⟨requestLength_iff, fun b r rest s taking inTime zero beacon reserved => ?_⟩
  have source : ¬ r.Unanswerable := by
    unfold Request.Unanswerable
    omega
  have answers (code : Byte) (contents : List Byte) :
      ({ s with rxq := rest } : State).enqueue (answerEntry r code (leadUid r ++ contents)) =
        { s with
          rxq := rest
          txq := s.txq ++ [answered r (if r.code = 0x01 then 61 else r.source) code
            ((if (if r.code = 0x01 then 61 else r.source) = 61 ∧ 1 ≤ r.code.toNat ∧ r.code.toNat ≤ 4 ∧
              requestLength r.code = some r.payload.length then r.payload.take 6 else []) ++ contents)] } := by
    rw [leadUid_eq]
    rfl
  intro dest lead bound answer
  refine ⟨fun unknown running => ?_, ?_⟩
  · have taken := State.takeRequest_taking r s (fun c => (requestLength c).isNone) b (fun r s => s.refuse r .unsupported)
      rest taking (by simp [unknown])
    refine congrArg Host.Outcome.next (taken.trans ?_)
    rw [State.decideRequest_checks (s := { s with rxq := rest }) inTime source, if_neg (by simp [running]), if_pos unknown]
    exact answers 0x82 [8]
  · obtain ⟨kind, serve, taker⟩ := takerOf_takenBy r.code b
    refine ⟨_, (taker.runs s).trans (congrArg _ (State.takeRequest_taking r s kind b serve rest taking taker.own)), ?_⟩
    rw [State.decideRequest_checks (s := { s with rxq := rest }) inTime source]
    by_cases held : s.ctl.mode = .held
    · rw [if_pos held, if_pos held]
      exact answers 0x81 _
    rw [if_neg held, if_neg held]
    by_cases unknown : requestLength r.code = none
    · rw [if_pos unknown, if_pos unknown]
      exact answers 0x82 [8]
    rw [if_neg unknown, if_neg unknown]
    by_cases malformed : requestLength r.code ≠ some r.payload.length
    · rw [if_pos malformed, if_pos malformed]
      exact answers 0x82 [7]
    rw [if_neg malformed, if_neg malformed]
    by_cases from61 : r.source = 61 ∧ r.code ≠ 0x01
    · rw [if_pos from61, if_pos from61]
      exact answers 0x82 [5]
    have check : lookupOrGroupCode r.code = true ∧ ({ s with rxq := rest } : State).boundSource r.source = false ↔
        0x10 ≤ r.code.toNat ∧ bound = false := and_congr (lookupOrGroupCode_iff unknown) .rfl
    rw [if_neg from61, if_neg from61]
    by_cases unbound : 0x10 ≤ r.code.toNat ∧ bound = false
    · rw [if_pos (check.2 unbound), if_pos unbound]
      exact answers 0x82 [5]
    rw [if_neg (mt check.1 unbound), if_neg unbound]
    split
    next badUid =>
      rw [taker.badUid badUid.1 unknown r _ ((validUid_eq_false r.uid).2 badUid.2)]
      exact answers 0x82 [14]
    next => trivial

end Sys2Proof.Machine

/-! PROOF. The life-cycle requests (chapters 2, 4, 5): JOIN of a known and of an unknown UID, CONFIRM, RENEW, adoption, LEAVE
and conflicts, each with the whole next state. -/

namespace Sys2Proof.Machine

variable {s t : State} {r : Request} {b : Bool} {rest : List Request} {slot : Nat} {rd : Record}

/-! ### Serving -/

/-- A life-cycle request that passes its admission is served by its owning rule (R152). -/
theorem State.takeRequest_served {code : Byte} {serve : Request → State → State} (served : Served b code r rest s)
    (lifeCycle : lifeCycleCode code = true) :
    s.takeRequest (fun c => c == code) b serve = serve r { s with rxq := rest } := by
  obtain ⟨taking, heard, isCode, -⟩ := served
  refine s.takeRequest_heard r _ b serve rest taking heard (fun lookup => ?_) (by simp [isCode])
  rw [isCode, lookup_of_lifeCycle code lifeCycle] at lookup
  cases lookup

/-- What is known of a served request's answer: it goes to 61 for a JOIN, and else to the source. -/
theorem served_source {code : Byte} (served : Served b code r rest s) (notJoin : code ≠ 0x01) :
    r.source ≠ 61 ∧ r.code ≠ 0x01 := by
  obtain ⟨-, ⟨-, -, -, -, -, -, joins⟩, isCode, -⟩ := served
  have other : r.code ≠ 0x01 := isCode ▸ notJoin
  exact ⟨fun is => other (joins is), other⟩

theorem served_valid {code : Byte} (served : Served b code r rest s) : ¬ validUid r.uid = false := by
  rw [served.2.2.2]
  decide

/-! ### JOIN (2.2, 4.2) -/

theorem State.join_runs (served : Served b 0x01 r rest s) :
    Runs (.join b) s (({ s with rxq := rest } : State).serveJoin r) :=
  congrArg Host.Outcome.next (State.takeRequest_served (serve := fun r s => s.serveJoin r) served rfl)

section Join

variable (code : r.code = 0x01) (length : requestLength r.code = some r.payload.length)
include code length

/-- JOIN of a RESERVED record's UID (R31). -/
theorem State.joinReserved_eq : s.joinReserved r slot rd =
    match assign rd.reservedAddress rd.uid (natAt r.payload 7) (s.ros.free, s.ros.hold) with
    | some (a, free, hold) => { s with
        ros := { s.ros with
          table := s.ros.table.set slot (some { rd with
            state := .offered, address := some a, remaining := some s.cfg.offerTime })
          free := free, hold := hold }
        cn := s.cn.marked slot
        txq := s.txq ++ [answered r 61 0x83
          (offerBytes rd.uid a (if rd.pinned then 0 else s.cfg.leaseTime) s.cfg.offerTime s.ctl.epoch.toNat)] }
    | none => { s with
        ros := { s.ros with table := s.ros.table.set slot (some rd) }
        cn := s.cn.noticed 2
        txq := s.txq ++ [answered r 61 0x82 (uidBytes r.uid ++ [3])] } := by
  have order : assign rd.reservedAddress rd.uid r.preferred s.custody =
      assign rd.reservedAddress rd.uid (natAt r.payload 7) (s.ros.free, s.ros.hold) := rfl
  unfold State.joinReserved
  rw [order]
  cases assign rd.reservedAddress rd.uid (natAt r.payload 7) (s.ros.free, s.ros.hold) with
  | some choice => exact State.offer_eq r _ code _
  | none => exact State.refuse_join_eq r _ code length .full

/-- JOIN of a UID that has a record, by the record's state (R30 to R34). -/
theorem State.joinRecord_cases (own : rd.uid = r.uid) :
    (rd.state = .reserved → s.joinRecord r slot rd = s.joinReserved r slot { rd with cls := r.cls }) ∧
    (rd.state = .offered → s.joinRecord r slot rd = { s with
      ros := { s.ros with table := s.ros.table.set slot (some { rd with
        remaining := some s.cfg.offerTime, cls := r.cls }) }
      txq := s.txq ++ [answered r 61 0x83 (offerBytes r.uid (rd.address.getD 0)
        (if rd.pinned then 0 else s.cfg.leaseTime) s.cfg.offerTime s.ctl.epoch.toNat)] }) ∧
    (rd.state = .bound ∨ rd.state = .lapsed → s.joinRecord r slot rd = { s with
      ros := { s.ros with table := s.ros.table.set slot (some { rd with
        state := .offered, remaining := some s.cfg.offerTime, cls := r.cls }) }
      cn := s.cn.marked slot
      txq := s.txq ++ [answered r 61 0x83 (offerBytes r.uid (rd.address.getD 0)
        (if rd.pinned then 0 else s.cfg.leaseTime) s.cfg.offerTime s.ctl.epoch.toNat)] }) ∧
    (rd.state = .evicting → s.joinRecord r slot rd = { s with
      ros := { s.ros with table := s.ros.table.set slot (some { rd with cls := r.cls }) }
      txq := s.txq ++ [answered r 61 0x82 (uidBytes r.uid ++ [13])] }) ∧
    (rd.state = .barred → s.joinRecord r slot rd = { s with
      ros := { s.ros with table := s.ros.table.set slot (some { rd with cls := r.cls }) }
      txq := s.txq ++ [answered r 61 0x82 (uidBytes r.uid ++ [2])] }) := by
  unfold State.joinRecord
  dsimp only
  refine ⟨fun state => ?_, fun state => ?_, fun state => ?_, fun state => ?_, fun state => ?_⟩
  · rw [state]
  · rw [state]
    exact (State.offer_eq r _ code _).trans (by rw [← own]; rfl)
  · have offered := State.offer_eq r (s.change slot { rd with
      state := .offered, remaining := some s.cfg.offerTime, cls := r.cls }) code
      { rd with state := .offered, remaining := some s.cfg.offerTime, cls := r.cls }
    rcases state with state | state <;> rw [state] <;> exact offered.trans (by rw [← own]; rfl)
  · rw [state]
    exact State.refuse_join_eq r _ code length .retry
  · rw [state]
    exact State.refuse_join_eq r _ code length .barred

end Join

/-- Settles O19: by the record's state. -/
theorem joinOfAKnownUid : Obligations.JoinOfAKnownUid := by
  unfold Obligations.JoinOfAKnownUid
  intro b r rest s slot rd served found
  have serves : ({ s with rxq := rest } : State).serveJoin r = ({ s with rxq := rest } : State).joinRecord r slot rd := by
    unfold State.serveJoin
    rw [if_neg (served_valid served)]
    have same : ({ s with rxq := rest } : State).findUid r.uid = some (slot, rd) := found
    rw [same]
  have run := State.join_runs served
  rw [serves] at run
  obtain ⟨-, ⟨-, -, -, -, -, length, -⟩, code, -⟩ := served
  have own : rd.uid = r.uid := (s.findUid_some r.uid slot rd found).2
  obtain ⟨reserved, offered, again, evicting, barred⟩ :=
    State.joinRecord_cases (s := { s with rxq := rest }) (slot := slot) (rd := rd) code length own
  refine ⟨_, run, ?_⟩
  split
  next state =>
    rw [reserved state, State.joinReserved_eq (s := { s with rxq := rest }) (rd := { rd with cls := r.cls }) code length]
    have held : ({ rd with cls := r.cls } : Record).reservedAddress = if rd.reserved then rd.address else none := rfl
    dsimp only
    rw [held, own]
    cases assign (if rd.reserved then rd.address else none) r.uid (natAt r.payload 7) (s.ros.free, s.ros.hold) <;> rfl
  next state => exact offered state
  next state => exact again (.inl state)
  next state => exact again (.inr state)
  next state => exact evicting state
  next state => exact barred state

/-- The APQ item that a JOIN makes, field by field (R76). -/
theorem State.apqItem_eq : s.apqItem r =
    { uid := r.uid, cls := byteAt r.payload 6,
      preferred := if 1 ≤ natAt r.payload 7 ∧ natAt r.payload 7 ≤ 60 then some (natAt r.payload 7) else none,
      remaining := s.cfg.approveTime } := by
  have preferred : r.preferredAssignable =
      if 1 ≤ natAt r.payload 7 ∧ natAt r.payload 7 ≤ 60 then some (natAt r.payload 7) else none := by
    unfold Request.preferredAssignable
    simp only [assignable_iff]
    rfl
  rw [← preferred]
  rfl

theorem State.queued_iff (u : Uid) : s.queued u = true ↔ ∃ i ∈ s.ros.apq, i.uid = u := by
  simp only [State.queued, List.any_eq_true, beq_iff_eq]

/-- JOIN under APPROVE (R76 to R78). -/
theorem State.joinApprove_cases (code : r.code = 0x01) (length : requestLength r.code = some r.payload.length) :
    (s.queued r.uid = true → s.joinApprove r = { s with
      ros := { s.ros with apq := s.ros.apq.map fun i => if i.uid = r.uid then s.apqItem r else i }
      txq := s.txq ++ [answered r 61 0x81 (uidBytes r.uid ++ [2, byte (s.cfg.beaconPeriod / 10)])] }) ∧
    (¬ s.queued r.uid = true → s.ros.apq.length < 8 → s.joinApprove r = { s with
      ros := { s.ros with apq := s.ros.apq ++ [s.apqItem r] }
      cn := s.cn.noticed 0
      txq := s.txq ++ [answered r 61 0x81 (uidBytes r.uid ++ [2, byte (s.cfg.beaconPeriod / 10)])] }) ∧
    (¬ s.queued r.uid = true → 8 ≤ s.ros.apq.length → s.joinApprove r = { s with
      txq := s.txq ++ [answered r 61 0x82 (uidBytes r.uid ++ [4])] }) := by
  unfold State.joinApprove
  refine ⟨fun queued => ?_, fun fresh room => ?_, fun fresh full => ?_⟩
  · rw [if_pos queued]
    exact State.wait_join_eq r _ code length 2
  · rw [if_neg fresh, if_pos room]
    exact State.wait_join_eq r _ code length 2
  · rw [if_neg fresh, if_neg (by omega)]
    exact State.refuse_join_eq r _ code length .busy

/-- JOIN under OPEN (R35). -/
theorem State.joinOpen_eq (code : r.code = 0x01) (length : requestLength r.code = some r.payload.length) :
    s.joinOpen r = match s.vacantSlot, assign none r.uid (natAt r.payload 7) (s.ros.free, s.ros.hold) with
      | some slot, some (a, free, hold) => { s with
          ros := { s.ros with
            table := s.ros.table.set slot (some
              { state := .offered, origin := .line, uid := r.uid, address := some a, reserved := false,
                pinned := false, remaining := some s.cfg.offerTime, cls := byteAt r.payload 6, binds := 0,
                conflicts := 0, groups := [], label := [] })
            free := free, hold := hold, apq := s.ros.apq.eraseP fun i => i.uid == r.uid }
          cn := s.cn.marked slot
          txq := s.txq ++ [answered r 61 0x83
            (offerBytes r.uid a s.cfg.leaseTime s.cfg.offerTime s.ctl.epoch.toNat)] }
      | _, _ => { s with cn := s.cn.noticed 2, txq := s.txq ++ [answered r 61 0x82 (uidBytes r.uid ++ [3])] } := by
  have order : assign none r.uid r.preferred s.custody = assign none r.uid (natAt r.payload 7) (s.ros.free, s.ros.hold) := rfl
  have refused : (s.setNotice .poolExhausted).refuse r .full =
      { s with cn := s.cn.noticed 2, txq := s.txq ++ [answered r 61 0x82 (uidBytes r.uid ++ [3])] } :=
    State.refuse_join_eq r _ code length .full
  unfold State.joinOpen
  rw [order]
  cases s.vacantSlot with
  | none => exact refused
  | some slot =>
    rcases assign none r.uid (natAt r.payload 7) (s.ros.free, s.ros.hold) with _ | ⟨a, free, hold⟩
    · exact refused
    · dsimp only
      rw [State.offer_eq r _ code, State.create_eq]
      rfl

/-- Settles O20: by the policy. -/
theorem joinOfAnUnknownUid : Obligations.JoinOfAnUnknownUid := by
  unfold Obligations.JoinOfAnUnknownUid
  intro b r rest s served unknown
  have serves : ({ s with rxq := rest } : State).serveJoin r = ({ s with rxq := rest } : State).joinUnknown r := by
    unfold State.serveJoin
    rw [if_neg (served_valid served)]
    have same : ({ s with rxq := rest } : State).findUid r.uid = none := unknown
    rw [same]
  have run := State.join_runs served
  rw [serves] at run
  obtain ⟨-, ⟨-, -, -, -, -, length, -⟩, code, -⟩ := served
  refine ⟨_, run, ?_⟩
  unfold State.joinUnknown
  cases policy : s.cfg.policy with
  | openAll =>
    dsimp only
    rw [State.joinOpen_eq code length]
    have vacancy : ({ s with rxq := rest } : State).vacantSlot = s.vacantSlot := rfl
    rw [vacancy]
    cases s.vacantSlot with
    | none => rfl
    | some slot =>
      dsimp only
      cases assign none r.uid (natAt r.payload 7) (s.ros.free, s.ros.hold) <;> rfl
  | approve =>
    dsimp only
    obtain ⟨again, added, busy⟩ := State.joinApprove_cases (s := { s with rxq := rest }) code length
    rw [State.apqItem_eq] at again added
    rw [State.queued_iff] at again added busy
    exact ⟨again, added, busy⟩
  | closed =>
    exact State.refuse_join_eq r _ code length .unknown

end Sys2Proof.Machine

/-! PROOF. CONFIRM, RENEW, adoption, LEAVE and conflicts (2.3 to 2.6, 5.1 to 5.3): the next state of each request of the
holder of its source address, of the holder's address with another UID, and of an address that no record holds. -/

namespace Sys2Proof.Machine

variable {s : State} {r : Request} {b : Bool} {rest : List Request} {slot : Nat} {rd : Record}

/-! ### Running -/

theorem State.confirm_runs (served : Served b 0x02 r rest s) :
    Runs (.confirm b) s (({ s with rxq := rest } : State).serveConfirm r) :=
  congrArg Host.Outcome.next (State.takeRequest_served (serve := fun r s => s.serveConfirm r) served rfl)

theorem State.renew_runs (served : Served b 0x03 r rest s) :
    Runs (.renew b) s (({ s with rxq := rest } : State).serveRenew r) :=
  congrArg Host.Outcome.next (State.takeRequest_served (serve := fun r s => s.serveRenew r) served rfl)

theorem State.leave_runs (served : Served b 0x04 r rest s) :
    Runs (.leave b) s (({ s with rxq := rest } : State).serveLeave r) :=
  congrArg Host.Outcome.next (State.takeRequest_served (serve := fun r s => s.serveLeave r) served rfl)

/-! ### The binding operations -/

theorem leaseTimer_getD : (s.leaseTimer rd).getD 0 = if rd.pinned then 0 else s.cfg.leaseTime := by
  unfold State.leaseTimer
  cases rd.pinned <;> rfl

section Answers

variable (source : r.source ≠ 61) (code : r.code ≠ 0x01)
include source code

/-- An OFFERED record bound by its holder's CONFIRM or RENEW (R39, R45). -/
theorem State.bindOffered_eq : s.bindOffered r slot rd = { s with
    ros := { s.ros with table := s.ros.table.set slot (some { rd with
      state := .bound, remaining := s.leaseTimer rd, binds := min (rd.binds + 1) 255 }) }
    cn := s.cn.marked slot
    txq := s.txq ++ [answered r r.source 0x80
      (bindingBytes (if rd.pinned then 0 else s.cfg.leaseTime) rd.groups s.ctl.epoch.toNat)] } := by
  unfold State.bindOffered
  dsimp only
  rw [State.bindingAck_eq r _ source code, State.change_eq]
  rfl

/-- A LAPSED record revived (R40, R44). -/
theorem State.revive_eq : s.revive r slot rd = { s with
    ros := { s.ros with table := s.ros.table.set slot (some { rd with state := .bound, remaining := s.leaseTimer rd }) }
    cn := s.cn.marked slot
    txq := s.txq ++ [answered r r.source 0x80
      (bindingBytes (if rd.pinned then 0 else s.cfg.leaseTime) rd.groups s.ctl.epoch.toNat)] } := by
  unfold State.revive
  dsimp only
  rw [State.bindingAck_eq r _ source code, State.change_eq]

/-- A BOUND record's lease restarted (R40, R43). -/
theorem State.renewLease_eq : s.renewLease r slot rd = { s with
    ros := { s.ros with table := s.ros.table.set slot (some { rd with remaining := s.leaseTimer rd }) }
    txq := s.txq ++ [answered r r.source 0x80
      (bindingBytes (if rd.pinned then 0 else s.cfg.leaseTime) rd.groups s.ctl.epoch.toNat)] } := by
  unfold State.renewLease
  dsimp only
  rw [State.bindingAck_eq r _ source code]
  rfl

/-- A RESERVED record bound by adoption (R47). -/
theorem State.adoptRecord_eq : s.adoptRecord r slot rd = { s with
    ros := { s.ros with table := s.ros.table.set slot (some { rd with
      state := .bound, address := some r.source, remaining := s.leaseTimer rd, binds := min (rd.binds + 1) 255 }) }
    cn := s.cn.marked slot
    txq := s.txq ++ [answered r r.source 0x80
      (bindingBytes (if rd.pinned then 0 else s.cfg.leaseTime) rd.groups s.ctl.epoch.toNat)] } := by
  unfold State.adoptRecord
  dsimp only
  rw [State.bindingAck_eq r _ source code, State.change_eq]
  rfl

/-! ### The holder's requests -/

/-- A CONFIRM of the holder of its source address, by the record's state (R39 to R41). -/
theorem State.serveConfirm_cases (valid : ¬ validUid r.uid = false)
    (found : s.findAddr r.source = some (slot, rd)) (own : rd.uid = r.uid) :
    (rd.state = .offered → s.serveConfirm r = s.bindOffered r slot rd) ∧
    (rd.state = .bound → s.serveConfirm r = s.renewLease r slot rd) ∧
    (rd.state = .lapsed → s.serveConfirm r = s.revive r slot rd) ∧
    (rd.state = .evicting → s.serveConfirm r = { s with txq := s.txq ++ [answered r r.source 0x82 [6]] }) ∧
    (rd.state = .reserved → s.serveConfirm r = { s with txq := s.txq ++ [answered r r.source 0x82 [5]] }) := by
  unfold State.serveConfirm
  rw [if_neg valid, found]
  dsimp only
  rw [if_neg (not_not.mpr own)]
  refine ⟨fun state => ?_, fun state => ?_, fun state => ?_, fun state => ?_, fun state => ?_⟩ <;> rw [state]
  · exact State.refuse_eq r _ source code .retired
  · exact State.refuse_eq r _ source code .notBound

/-- A RENEW of the holder of its source address, by the record's state (R43 to R46). -/
theorem State.serveRenew_cases (valid : ¬ validUid r.uid = false)
    (found : s.findAddr r.source = some (slot, rd)) (own : rd.uid = r.uid) :
    (rd.state = .offered → s.serveRenew r = s.bindOffered r slot rd) ∧
    (rd.state = .bound → s.serveRenew r = s.renewLease r slot rd) ∧
    (rd.state = .lapsed → s.serveRenew r = s.revive r slot rd) ∧
    (rd.state = .evicting → s.serveRenew r = { s with txq := s.txq ++ [answered r r.source 0x82 [6]] }) ∧
    (rd.state = .reserved → s.serveRenew r = s.adopt r) := by
  unfold State.serveRenew
  rw [if_neg valid, found]
  dsimp only
  rw [if_neg (not_not.mpr own)]
  refine ⟨fun state => ?_, fun state => ?_, fun state => ?_, fun state => ?_, fun state => ?_⟩ <;> rw [state]
  exact State.refuse_eq r _ source code .retired

end Answers

/-- A LEAVE of the holder of its source address, by the record's state (R50, R51). -/
theorem State.serveLeave_cases (valid : ¬ validUid r.uid = false)
    (found : s.findAddr r.source = some (slot, rd)) (own : rd.uid = r.uid) :
    (rd.state = .offered ∨ rd.state = .bound ∨ rd.state = .lapsed →
      s.serveLeave r = (s.releaseRecord slot rd).plainAck r) ∧
    (rd.state = .evicting ∨ rd.state = .reserved → s.serveLeave r = s.plainAck r) := by
  unfold State.serveLeave
  rw [if_neg valid, found]
  dsimp only
  rw [if_neg (not_not.mpr own)]
  refine ⟨?_, ?_⟩
  · rintro (state | state | state) <;> rw [state]
  · rintro (state | state) <;> rw [state]

/-- Settles O21: by the record's state. -/
theorem confirmAndRenewOfTheHolder : Obligations.ConfirmAndRenewOfTheHolder := by
  unfold Obligations.ConfirmAndRenewOfTheHolder
  refine ⟨?_, ?_⟩
  · intro b c code r rest s slot rd which served found own
    dsimp only
    have notJoin : code ≠ 0x01 := by
      rcases which with ⟨-, rfl⟩ | ⟨-, rfl⟩ <;> decide
    obtain ⟨source, other⟩ := served_source served notJoin
    have found' : ({ s with rxq := rest } : State).findAddr r.source = some (slot, rd) := found
    have lease : (if rd.pinned then none else some s.cfg.leaseTime) = s.leaseTimer rd := rfl
    rw [lease, leaseTimer_getD]
    have bind := State.bindOffered_eq (s := { s with rxq := rest }) (slot := slot) (rd := rd) source other
    have renew := State.renewLease_eq (s := { s with rxq := rest }) (slot := slot) (rd := rd) source other
    have revive := State.revive_eq (s := { s with rxq := rest }) (slot := slot) (rd := rd) source other
    rcases which with ⟨rfl, rfl⟩ | ⟨rfl, rfl⟩
    · obtain ⟨offered, bound, lapsed, evicting, -⟩ :=
        State.serveConfirm_cases source other (served_valid served) found' own
      exact ⟨_, State.confirm_runs served, fun state => (offered state).trans bind, fun state => (bound state).trans renew,
        fun state => (lapsed state).trans revive, evicting⟩
    · obtain ⟨offered, bound, lapsed, evicting, -⟩ :=
        State.serveRenew_cases source other (served_valid served) found' own
      exact ⟨_, State.renew_runs served, fun state => (offered state).trans bind, fun state => (bound state).trans renew,
        fun state => (lapsed state).trans revive, evicting⟩
  · intro b r rest s served unbound
    obtain ⟨source, other⟩ := served_source served (by decide)
    refine (State.confirm_runs served).trans (congrArg Host.Outcome.next ?_)
    rcases unbound with vacant | ⟨slot, rd, found, own, state⟩
    · unfold State.serveConfirm
      rw [if_neg (served_valid served)]
      have vacant' : ({ s with rxq := rest } : State).findAddr r.source = none := vacant
      rw [vacant']
      exact State.refuse_eq r _ source other .notBound
    · obtain ⟨-, -, -, -, reserved⟩ :=
        State.serveConfirm_cases (s := { s with rxq := rest }) source other (served_valid served) found own
      exact reserved state

/-! ### Adoption (2.5) -/

section Adoption

variable (source : r.source ≠ 61) (code : r.code ≠ 0x01)
include source code

theorem State.refuse_notBound_eq : s.refuse r .notBound = { s with txq := s.txq ++ [answered r r.source 0x82 [5]] } :=
  State.refuse_eq r _ source code .notBound

/-- Adoption of a RESERVED record without a reserved address (R47, R49). -/
theorem State.adoptReserved_unreserved (free : rd.reserved = false) : s.adoptReserved r slot rd =
    match claim r.source r.uid (s.ros.free, s.ros.hold) with
    | some (free, hold) => { s with
        ros := { s.ros with
          table := s.ros.table.set slot (some { rd with
            state := .bound, address := some r.source, remaining := s.leaseTimer rd, binds := min (rd.binds + 1) 255 })
          free := free, hold := hold }
        cn := s.cn.marked slot
        txq := s.txq ++ [answered r r.source 0x80
          (bindingBytes (if rd.pinned then 0 else s.cfg.leaseTime) rd.groups s.ctl.epoch.toNat)] }
    | none => { s with txq := s.txq ++ [answered r r.source 0x82 [5]] } := by
  have custody : s.custody = (s.ros.free, s.ros.hold) := rfl
  unfold State.adoptReserved
  rw [if_neg (by simp [free]), custody]
  rcases claim r.source r.uid (s.ros.free, s.ros.hold) with _ | ⟨free, hold⟩
  · exact State.refuse_notBound_eq source code
  · dsimp only
    rw [State.adoptRecord_eq source code]
    rfl

/-- Adoption of a UID without a record (R48, R49). -/
theorem State.adoptUnknown_eq : s.adoptUnknown r =
    match s.cfg.policy, s.vacantSlot, claim r.source r.uid (s.ros.free, s.ros.hold) with
    | .openAll, some slot, some (free, hold) => { s with
        ros := { s.ros with
          table := s.ros.table.set slot (some
            { state := .bound, origin := .line, uid := r.uid, address := some r.source, reserved := false,
              pinned := false, remaining := some s.cfg.leaseTime, cls := 0, binds := 1, conflicts := 0,
              groups := [], label := [] })
          free := free, hold := hold, apq := s.ros.apq.eraseP fun i => i.uid == r.uid }
        cn := s.cn.marked slot
        txq := s.txq ++ [answered r r.source 0x80 (bindingBytes s.cfg.leaseTime [] s.ctl.epoch.toNat)] }
    | _, _, _ => { s with txq := s.txq ++ [answered r r.source 0x82 [5]] } := by
  have refused := State.refuse_notBound_eq (s := s) source code
  have custody : s.custody = (s.ros.free, s.ros.hold) := rfl
  unfold State.adoptUnknown
  rw [custody]
  cases s.cfg.policy with
  | approve => exact refused
  | closed => exact refused
  | openAll =>
    cases s.vacantSlot with
    | none => exact refused
    | some slot =>
      rcases claim r.source r.uid (s.ros.free, s.ros.hold) with _ | ⟨free, hold⟩
      · exact refused
      · dsimp only
        rw [State.bindingAck_eq r _ source code, State.create_eq]
        rfl

end Adoption

/-- A RENEW comes to adoption where no record holds its source address, or a RESERVED record of its UID does. -/
theorem State.serveRenew_adopts (source : r.source ≠ 61) (code : r.code ≠ 0x01) (valid : ¬ validUid r.uid = false)
    (unbound : s.findAddr r.source = none ∨
      ∃ slot rd, s.findAddr r.source = some (slot, rd) ∧ rd.uid = r.uid ∧ rd.state = .reserved) :
    s.serveRenew r = s.adopt r := by
  rcases unbound with vacant | ⟨slot, rd, found, own, state⟩
  · unfold State.serveRenew
    rw [if_neg valid, vacant]
  · obtain ⟨-, -, -, -, reserved⟩ := State.serveRenew_cases source code valid found own
    exact reserved state

/-- Settles O22: by the conditions of adoption in their order. -/
theorem renewAdopts : Obligations.RenewAdopts := by
  unfold Obligations.RenewAdopts
  intro b r rest s served unbound
  dsimp only
  obtain ⟨source, other⟩ := served_source served (by decide)
  have run := State.renew_runs served
  rw [State.serveRenew_adopts (s := { s with rxq := rest }) source other (served_valid served) unbound] at run
  have refused := State.refuse_notBound_eq (s := { s with rxq := rest }) source other
  refine ⟨_, run, ?_⟩
  unfold State.adopt
  dsimp only
  split
  next off => exact refused
  next on =>
    have same : ({ s with rxq := rest } : State).findUid r.uid = s.findUid r.uid := rfl
    rw [same]
    rcases s.findUid r.uid with _ | ⟨slot, rd⟩
    · dsimp only
      rw [State.adoptUnknown_eq source other]
      have vacancy : ({ s with rxq := rest } : State).vacantSlot = s.vacantSlot := rfl
      rw [vacancy]
      dsimp only
      cases s.cfg.policy with
      | approve => rfl
      | closed => rfl
      | openAll =>
        cases s.vacantSlot with
        | none => rfl
        | some slot => cases claim r.source r.uid (s.ros.free, s.ros.hold) <;> rfl
    · dsimp only
      refine ⟨fun state held at' => ?_, fun state held away => ?_, fun state free => ?_, fun state => ?_, fun state => ?_⟩
      · rw [state]
        dsimp only
        unfold State.adoptReserved
        rw [if_pos held, if_pos at', State.adoptRecord_eq source other]
        rfl
      · rw [state]
        dsimp only
        unfold State.adoptReserved
        rw [if_pos held, if_neg away]
        exact refused
      · rw [state]
        dsimp only
        rw [State.adoptReserved_unreserved source other free]
        dsimp only
        cases claim r.source r.uid (s.ros.free, s.ros.hold) <;> rfl
      · rw [state]
        exact State.refuse_eq r _ source other .barred
      · split
        next reserved => rw [reserved] at state; cases state
        next barred => rw [barred] at state; cases state
        next => exact refused

/-! ### LEAVE (2.6) -/

/-- Settles O23: the release rule for the three active states, and nothing else. -/
theorem leaveReleases : Obligations.LeaveReleases := by
  unfold Obligations.LeaveReleases
  intro b r rest s served
  dsimp only
  obtain ⟨source, other⟩ := served_source served (by decide)
  have run := State.leave_runs served
  have acked := fun t : State => State.plainAck_eq r t source other
  refine ⟨fun vacant => ?_, fun slot rd found own => ?_⟩
  · refine run.trans (congrArg Host.Outcome.next ?_)
    unfold State.serveLeave
    rw [if_neg (served_valid served)]
    have vacant' : ({ s with rxq := rest } : State).findAddr r.source = none := vacant
    rw [vacant']
    exact acked _
  · obtain ⟨active, resting⟩ :=
      State.serveLeave_cases (s := { s with rxq := rest }) (served_valid served) found own
    refine ⟨fun state => ?_, fun state => ?_⟩
    · refine run.trans (congrArg Host.Outcome.next ?_)
      rw [active state, acked, State.releaseRecord_eq _ slot r.source rd (s.findAddr_some r.source slot rd found).2]
    · refine run.trans (congrArg Host.Outcome.next ?_)
      rw [resting state, acked]

/-! ### Conflicts (5.1 to 5.3) -/

/-- A counted conflict comes to CONFLICT_LIMIT exactly when the count was below its end and one short of the limit. -/
theorem saturate_reaches (n limit : Nat) (small : n ≤ 15) :
    (saturate 15 n ≠ n ∧ saturate 15 n = limit) ↔ (n < 15 ∧ n + 1 = limit) := by
  unfold saturate
  omega

/-- A conflict latched: the first one, or the overflow flag of the first one (R93). -/
theorem Cn.latchConflict_eq (c : Cn) (address slot : Nat) (intruder : Uid) (code : Byte) :
    c.latchConflict address slot intruder code = { c with
      latch := some (match c.latch with
        | none => { address := address, slot := slot, intruder := intruder, code := code, overflow := false }
        | some l => { l with overflow := true }) } := by
  unfold Cn.latchConflict
  cases c.latch <;> rfl

/-- The next state of a conflict (R91 to R94). -/
theorem State.conflict_eq (source : r.source ≠ 61) (code : r.code ≠ 0x01) (small : rd.conflicts ≤ 15) :
    s.conflict r slot rd = { s with
      ros := { s.ros with table := s.ros.table.set slot (some { rd with conflicts := min (rd.conflicts + 1) 15 }) }
      cn := { (if rd.conflicts < 15 ∧ rd.conflicts + 1 = s.cfg.conflictLimit then (s.cn.marked slot).noticed 6
          else s.cn.marked slot) with
        latch := some (match s.cn.latch with
          | none => { address := r.source, slot := slot, intruder := r.uid, code := r.code, overflow := false }
          | some l => { l with overflow := true })
        counters := { s.cn.counters with conflicts := min (s.cn.counters.conflicts + 1) 65535 } }
      txq := s.txq ++ [answered r r.source 0xC1 (uidBytes r.uid ++ [1])] } := by
  have entry (t : State) : t.enqueue (answerEntry r 0xC1 (leadUid r ++ uidBytes r.uid ++ [1])) =
      { t with txq := t.txq ++ [answered r r.source 0xC1 (uidBytes r.uid ++ [1])] } := by
    simp only [answerEntry, leadUid_of_source r source code, answerDest_of_source r code]
    rfl
  unfold State.conflict
  dsimp only
  rw [entry]
  simp only [saturate_reaches rd.conflicts s.cfg.conflictLimit small]
  by_cases reaches : rd.conflicts < 15 ∧ rd.conflicts + 1 = s.cfg.conflictLimit
  · rw [if_pos reaches, if_pos reaches]
    rw [Cn.latchConflict_eq]
    rfl
  · rw [if_neg reaches, if_neg reaches]
    rw [Cn.latchConflict_eq]
    rfl

/-- Settles O24: each of the three requests comes to the conflict, whose next state is known. -/
theorem conflictIsCountedAndAnswered : Obligations.ConflictIsCountedAndAnswered := by
  unfold Obligations.ConflictIsCountedAndAnswered
  intro b c code r rest s slot rd which served found other small
  have notJoin : code ≠ 0x01 := by
    rcases which with ⟨-, rfl⟩ | ⟨-, rfl⟩ | ⟨-, rfl⟩ <;> decide
  obtain ⟨source, coded⟩ := served_source served notJoin
  have valid := served_valid served
  have found' : ({ s with rxq := rest } : State).findAddr r.source = some (slot, rd) := found
  have next := State.conflict_eq (s := { s with rxq := rest }) (slot := slot) source coded small
  have isCode : r.code = code := served.2.2.1
  rw [isCode] at next
  rcases which with ⟨rfl, rfl⟩ | ⟨rfl, rfl⟩ | ⟨rfl, rfl⟩
  · refine (State.confirm_runs served).trans (congrArg Host.Outcome.next (Eq.trans ?_ next))
    unfold State.serveConfirm
    rw [if_neg valid, found']
    exact if_pos other
  · refine (State.renew_runs served).trans (congrArg Host.Outcome.next (Eq.trans ?_ next))
    unfold State.serveRenew
    rw [if_neg valid, found']
    exact if_pos other
  · refine (State.leave_runs served).trans (congrArg Host.Outcome.next (Eq.trans ?_ next))
    unfold State.serveLeave
    rw [if_neg valid, found']
    exact if_pos other

end Sys2Proof.Machine

/-! PROOF. The line receiver, one event at a time (chapter 7): marked and unmarked characters, the checks of a complete
frame, framing errors, gaps, and the edges that restart the silence measure. -/

namespace Sys2Proof.Machine

variable {s : State} {w : CharWave} {edge : Nat}

/-! ### The bits of a character (R123) -/

theorem waveMark_eq (w : CharWave) : waveMark w = majority w 9 := waveBits_majority w 9

theorem waveStop_eq (w : CharWave) : waveStop w = majority w 10 := waveBits_majority w 10

theorem waveByte_bit (w : CharWave) {k : Nat} (data : k < 8) : (waveByte w).getLsbD k = majority w (k + 1) := by
  rw [waveByte, BitVec.getLsbD_extractLsb', waveBits_majority, Nat.add_comm 1 k]
  simp [data]

/-! ### What a line event finds -/

/-- A character being received, in START or DATA (R122). -/
abbrev State.OnLine (edge : Nat) (w : CharWave) (s : State) : Prop := s.lrx.chr = .start edge w ∨ s.lrx.chr = .data edge w

theorem State.receiving_eq (out : s.inReset = false) (onLine : s.OnLine edge w) : s.receiving w = some edge := by
  unfold State.receiving
  rw [out]
  rcases onLine with chr | chr <;> rw [chr] <;> exact if_pos rfl

@[simp] theorem State.advanceTo_quiet (t : Nat) : (s.advanceTo t).lrx.quiet = s.lrx.quiet := s.advance_quiet _

@[simp] theorem State.advanceTo_frm (t : Nat) : (s.advanceTo t).lrx.frm = s.lrx.frm := s.advance_frm _

@[simp] theorem State.advanceTo_cn (t : Nat) : (s.advanceTo t).cn = s.cn := s.advance_cn _

@[simp] theorem State.advanceTo_rxq (t : Nat) : (s.advanceTo t).rxq = s.rxq := s.advance_rxq _

@[simp] theorem State.advanceTo_cfg (t : Nat) : (s.advanceTo t).cfg = s.cfg := s.advance_cfg _

theorem State.ownSpan_advanceTo (t : Nat) : (s.advanceTo t).ownSpan = ((s.advanceTo t).de || s.lrx.quiet.isSome) := by
  rw [← State.advanceTo_quiet t]
  rfl

/-- LTX leaves what it is in with time only from one sent character to the next. -/
theorem State.advance_ltxState (d : Nat) (idle : ∀ a, s.ltx.state ≠ .sending a) : (s.advance d).ltx.state = s.ltx.state := by
  cases out : s.inReset with
  | true => rw [s.advance_inReset d out]
  | false =>
    rw [s.advance_eq d out]
    exact settleLtx_of_not_sending _ _ _ idle

theorem State.advance_sending {a : Attempt} (d : Nat) (sending : s.ltx.state = .sending a) :
    ∃ a', (s.advance d).ltx.state = .sending a' := by
  cases out : s.inReset with
  | true => rw [s.advance_inReset d out]; exact ⟨a, sending⟩
  | false =>
    rw [s.advance_eq d out]
    exact ⟨settleAttempt s.cfg.lineRate (s.now + d) a, by simp only [sending, settleLtx]⟩

/-! ### Handing a character on (R123, R142) -/

/-- An unmarked character, once it is known what the frame assembler makes of it. -/
theorem State.handCharacter_unmarked {frm : FrameAsm} {rxq : List Request} {cn : Cn} (unmarked : waveMark w = false)
    (assembled : (s.advanceTo (edge + 168 * samplePeriods s.cfg.lineRate)).assembleUnmarked (waveByte w)
        (edge + tChar s.cfg.lineRate) =
      { s.advanceTo (edge + 168 * samplePeriods s.cfg.lineRate) with
        lrx := { (s.advanceTo (edge + 168 * samplePeriods s.cfg.lineRate)).lrx with frm := frm }, rxq := rxq, cn := cn }) :
    s.handCharacter w edge =
      let base := s.advanceTo (edge + 168 * samplePeriods s.cfg.lineRate)
      { base with
        lrx :=
          { chr := .waiting, bits := receivedBits w 9, frm := frm, sil := .since (edge + tChar s.cfg.lineRate)
            quiet := s.lrx.quiet }
        ltx := base.ltx.hears (some (waveByte w, false)) base.now
        rxq := rxq, cn := cn } := by
  have quiet : s.lrx.quiet = (s.advanceTo (edge + 168 * samplePeriods s.cfg.lineRate)).lrx.quiet :=
    (State.advanceTo_quiet _).symm
  rw [s.handCharacter_eq w edge, unmarked, waveReceived_eq, quiet]
  dsimp only [handOn]
  rw [if_neg Bool.false_ne_true, assembled]

/-- A marked character begins a frame (R126). -/
theorem State.handCharacter_marked (marked : waveMark w = true) :
    s.handCharacter w edge =
      let base := s.advanceTo (edge + 168 * samplePeriods s.cfg.lineRate)
      { base with
        lrx :=
          { chr := .waiting, bits := receivedBits w 9, sil := .since (edge + tChar s.cfg.lineRate), quiet := s.lrx.quiet
            frm := beginFrame (waveByte w) (base.de || s.lrx.quiet.isSome) }
        ltx := base.ltx.hears (some (waveByte w, true)) base.now
        cn := match s.lrx.frm with
          | .assembling a => if a.own then s.cn else s.cn.malformedOnce
          | _ => s.cn } := by
  rw [s.handCharacter_eq w edge, marked, waveReceived_eq]
  dsimp only [handOn]
  rw [if_pos rfl, State.assembleMarked_eq, State.ownSpan_advanceTo, State.advanceTo_frm, State.advanceTo_cn]
  dsimp only
  rw [State.advanceTo_quiet]
  all_goals rfl

theorem beginFrame_eq (b : Byte) (own : Bool) :
    beginFrame b own = .assembling { bytes := [b], declared := none, crc := crcOf [b], own := own } := rfl

/-- Settles O33: the decided bits, and the frame that a marked character begins. -/
theorem markedCharacterBeginsAFrame : Obligations.MarkedCharacterBeginsAFrame := by
  unfold Obligations.MarkedCharacterBeginsAFrame
  refine ⟨fun w => ⟨waveStartValid_eq w, fun k data => waveByte_bit w data, waveMark_eq w, waveStop_eq w⟩,
    fun w edge s out onLine decides => ?_⟩
  obtain ⟨start, mark, stop⟩ := decides
  have marked : waveMark w = true := (waveMark_eq w).trans mark
  have handed := State.handCharacter_marked (s := s) (edge := edge) marked
  dsimp only at handed
  rw [beginFrame_eq] at handed
  show execMarkedCharacter w s = _
  unfold execMarkedCharacter
  rw [State.receiving_eq out onLine]
  exact (if_pos (by simp [waveStartValid_eq, waveStop_eq, start, marked, stop])).trans (congrArg Host.Outcome.next handed)

/-! ### Unmarked characters (R126, R127) -/

/-- An unmarked character that the decided bits make whole is handed on, whichever event names it. -/
theorem State.unmarked_runs (out : s.inReset = false) (onLine : s.OnLine edge w) (decides : Decides w false true) :
    Runs (.unmarkedCharacter w) s (s.handCharacter w edge) := by
  obtain ⟨start, mark, stop⟩ := decides
  show execUnmarkedCharacter w s = _
  unfold execUnmarkedCharacter
  rw [State.receiving_eq out onLine]
  exact if_pos (by simp [waveStartValid_eq, waveMark_eq, waveStop_eq, start, mark, stop])

theorem Assembly.grown_undeclared {a : Assembly} {b : Byte} (declares : a.declaredBy b = none) :
    a.grown b = { a with bytes := a.bytes ++ [b], declared := none, crc := crcByte a.crc b } := by
  rw [Assembly.grown, declares]
  rfl

theorem Assembly.grown_declared {a : Assembly} {b : Byte} {l : Nat} (declares : a.declaredBy b = some l) :
    a.grown b = { a with
      bytes := a.bytes ++ [b], declared := some l, crc := if a.bytes.length + 2 < l then crcByte a.crc b else a.crc } := by
  rw [Assembly.grown, declares]
  simp only [decide_eq_true_eq]

/-- A byte that leaves the frame in assembly. -/
theorem State.assembleUnmarked_grows {a : Assembly} {b : Byte} {endTime : Nat} (assembling : s.lrx.frm = .assembling a)
    (wellFormed : ¬ (a.bytes.length = 4 ∧ 48 < b.toNat)) (more : a.declaredBy b ≠ some (a.bytes.length + 1)) :
    s.assembleUnmarked b endTime = { s with lrx := { s.lrx with frm := .assembling (a.grown b) } } := by
  unfold State.assembleUnmarked
  rw [assembling]
  dsimp only
  rw [State.assembleByte_eq, if_neg wellFormed, if_neg more]
  rfl

/-- Settles O34: outside a frame, and in one by the number of the byte. -/
theorem unmarkedCharacterIsTheNextByte : Obligations.UnmarkedCharacterIsTheNextByte := by
  unfold Obligations.UnmarkedCharacterIsTheNextByte
  intro w edge s out onLine decides
  dsimp only
  have mark : waveMark w = false := (waveMark_eq w).trans decides.2.1
  have run := State.unmarked_runs out onLine decides
  refine ⟨fun outside => ?_, fun a assembling => ?_⟩
  · have ignored : (s.advanceTo (edge + 168 * samplePeriods s.cfg.lineRate)).assembleUnmarked (waveByte w)
        (edge + tChar s.cfg.lineRate) = s.advanceTo (edge + 168 * samplePeriods s.cfg.lineRate) := by
      unfold State.assembleUnmarked
      rw [State.advanceTo_frm]
      rcases outside with frm | ⟨own, frm⟩ <;> rw [frm]
    have handed := State.handCharacter_unmarked
      (frm := (s.advanceTo (edge + 168 * samplePeriods s.cfg.lineRate)).lrx.frm)
      (rxq := (s.advanceTo (edge + 168 * samplePeriods s.cfg.lineRate)).rxq)
      (cn := (s.advanceTo (edge + 168 * samplePeriods s.cfg.lineRate)).cn) mark ignored
    rw [State.advanceTo_frm] at handed
    exact run.trans (congrArg Host.Outcome.next handed)
  · have grows (wellFormed : ¬ (a.bytes.length = 4 ∧ 48 < (waveByte w).toNat))
        (more : a.declaredBy (waveByte w) ≠ some (a.bytes.length + 1)) :=
      run.trans (congrArg Host.Outcome.next (State.handCharacter_unmarked mark
        (State.assembleUnmarked_grows (endTime := edge + tChar s.cfg.lineRate)
          ((State.advanceTo_frm (edge + 168 * samplePeriods s.cfg.lineRate)).trans assembling) wellFormed more)))
    refine ⟨fun short undeclared => ?_, fun four limit => ?_, fun l header declared before => ?_⟩
    · have declares : a.declaredBy (waveByte w) = none := (if_neg (by omega)).trans undeclared
      have handed := grows (by omega) (by rw [declares]; exact nofun)
      rw [Assembly.grown_undeclared declares] at handed
      rw [undeclared]
      exact handed
    · have declares : a.declaredBy (waveByte w) = some (7 + (waveByte w).toNat) := if_pos four
      have handed := grows (by omega) (by rw [declares, four]; exact fun is => by injection is; omega)
      rw [Assembly.grown_declared declares, if_pos (by omega)] at handed
      exact handed
    · have declares : a.declaredBy (waveByte w) = some (7 + l) := (if_neg (by omega)).trans declared
      have handed := grows (by omega) (by rw [declares]; exact fun is => by injection is; omega)
      have covered : a.bytes.length + 2 < 7 + l ↔ a.bytes.length < 5 + l := by omega
      simp only [Assembly.grown_declared declares, covered] at handed
      rw [declared]
      exact handed

end Sys2Proof.Machine

/-! PROOF. The ends of frames and the silence measure (7.3 to 7.6): malformed lengths, gaps, the checks of a complete frame,
framing errors, and the edges that restart the silence measure. -/

namespace Sys2Proof.Machine

variable {s : State} {w : CharWave} {edge : Nat}

/-! ### Malformed lengths and gaps (R127, R128) -/

theorem State.countMalformedUnless_eq (own : Bool) :
    s.countMalformedUnless own = { s with cn := if own then s.cn else s.cn.malformedOnce } := by
  cases own <;> rfl

/-- Settles O35: the malformed length, and the two frames that a gap ends. -/
theorem malformedAndTruncatedFrames : Obligations.MalformedAndTruncatedFrames := by
  unfold Obligations.MalformedAndTruncatedFrames
  refine ⟨fun w edge s a out onLine decides assembling four long => ?_, fun t0 s out waiting silent => ?_⟩
  · obtain ⟨start, mark, stop⟩ := decides
    have unmarked : waveMark w = false := (waveMark_eq w).trans mark
    have next : s.lengthNext = true := by simp [State.lengthNext, assembling, four]
    have frm := (State.advanceTo_frm (s := s) (edge + 168 * samplePeriods s.cfg.lineRate)).trans assembling
    have malformed : (s.advanceTo (edge + 168 * samplePeriods s.cfg.lineRate)).assembleUnmarked (waveByte w)
          (edge + tChar s.cfg.lineRate) =
        { s.advanceTo (edge + 168 * samplePeriods s.cfg.lineRate) with
          lrx := { (s.advanceTo (edge + 168 * samplePeriods s.cfg.lineRate)).lrx with frm := .discarding a.own }
          cn := if a.own || ((s.advanceTo (edge + 168 * samplePeriods s.cfg.lineRate)).de || s.lrx.quiet.isSome)
            then s.cn else s.cn.malformedOnce } := by
      unfold State.assembleUnmarked
      rw [frm]
      dsimp only
      rw [State.assembleByte_eq, if_pos ⟨four, long⟩, State.countMalformedUnless_eq, State.ownSpan_advanceTo,
        State.advanceTo_cn]
      rfl
    have handed := State.handCharacter_unmarked (rxq := (s.advanceTo (edge + 168 * samplePeriods s.cfg.lineRate)).rxq)
      unmarked malformed
    rw [← Bool.or_assoc] at handed
    show execLengthMalformed w s = _
    unfold execLengthMalformed
    rw [State.receiving_eq out onLine]
    exact (if_pos (by simp [waveStartValid_eq, waveStop_eq, start, unmarked, stop, next, long])).trans
      (congrArg Host.Outcome.next handed)
  · have gap (inFrame : s.lrx.frm ≠ .outside) : Runs .frameGapTruncation s
        (s.advanceTo (t0 + 3 * tChar s.cfg.lineRate + 1)).truncateFrame := by
      show execFrameGapTruncation s = _
      unfold execFrameGapTruncation
      rw [out, waiting, silent]
      exact if_neg inFrame
    have frm := State.advanceTo_frm (s := s) (t0 + 3 * tChar s.cfg.lineRate + 1)
    refine ⟨fun a assembling => ?_, fun own discarding => ?_⟩
    · refine (gap (by rw [assembling]; exact nofun)).trans (congrArg Host.Outcome.next ?_)
      rw [State.truncateFrame_eq, frm, assembling, State.advanceTo_cn]
    · refine (gap (by rw [discarding]; exact nofun)).trans (congrArg Host.Outcome.next ?_)
      rw [State.truncateFrame_eq, frm, discarding]

/-! ### Complete frames (R129 to R133) -/

/-- The checks and the filter of a complete frame, with the whole next state. -/
theorem State.completeFrame_eq (a : Assembly) (quiet : Bool) (endTime : Nat) : s.completeFrame a quiet endTime =
    if be16 a.crc.toNat ≠ a.bytes.drop (a.bytes.length - 2) then
      { s with cn := if quiet then s.cn else
          { s.cn with counters := { s.cn.counters with crcErrors := min (s.cn.counters.crcErrors + 1) 65535 } } }
    else if natAt a.bytes 0 / 64 = 3 ∨ 63 < natAt a.bytes 1 then
      { s with cn := if quiet then s.cn else s.cn.malformedOnce }
    else if a.own ∨ natAt a.bytes 0 ≠ 0 then s
    else if s.rxq.length < 4 then
      { s with
        rxq := s.rxq ++ [s.requestOf a.bytes endTime]
        cn := if quiet then s.cn else
          { s.cn with counters := { s.cn.counters with accepted := min (s.cn.counters.accepted + 1) 65535 } } }
    else
      { s with
        cn := Cn.noticed 3 (if quiet then s.cn else
          { s.cn with counters := { s.cn.counters with overruns := min (s.cn.counters.overruns + 1) 65535 } }) } := by
  unfold State.completeFrame
  dsimp only
  split
  next => cases quiet <;> rfl
  next =>
    rw [← State.countMalformedUnless_eq]
    by_cases ftype : natAt a.bytes 0 / 64 = 3
    · rw [if_pos ftype, if_pos (.inl ftype)]
    · by_cases source : 63 < natAt a.bytes 1
      · rw [if_neg ftype, if_pos source, if_pos (.inr source)]
      · have passed : ¬ (natAt a.bytes 0 / 64 = 3 ∨ 63 < natAt a.bytes 1) := not_or.2 ⟨ftype, source⟩
        rw [if_neg ftype, if_neg source, if_neg passed, State.admitToRxq_eq]
        simp only [Bool.or_eq_true, decide_eq_true_eq]

/-- The request of a sound complete frame to destination 0 (R132). -/
theorem State.requestOf_eq {bytes : List Byte} {endTime : Nat} (dest : natAt bytes 0 = 0)
    (length : bytes.length = 7 + natAt bytes 4) : s.requestOf bytes endTime =
      { dest := 0, source := natAt bytes 1, code := byteAt bytes 2, tag := byteAt bytes 3
        payload := (bytes.take (bytes.length - 2)).drop 5, endTime := endTime
        deadline := s.requestDeadline (byteAt bytes 2) endTime } := by
  have payload : (bytes.take (bytes.length - 2)).drop 5 = (bytes.drop 5).take (natAt bytes 4) := by
    rw [List.drop_take]
    congr 1
    omega
  rw [payload, State.requestOf, dest]

/-- A request's deadline, tRSP after its end time or after the closing of the window that a JOIN meets (R132, R149). -/
theorem State.requestDeadline_advance (d endTime : Nat) (code : Byte) : (s.advance d).requestDeadline code endTime =
    24 * tChar s.cfg.lineRate + match s.ltx.state with
      | .window closing => if code = 0x01 ∧ endTime ≤ closing then closing else endTime
      | _ => endTime := by
  unfold State.requestDeadline
  rw [s.advance_cfg]
  cases state : s.ltx.state with
  | sending a =>
    obtain ⟨a', sending⟩ := s.advance_sending d state
    rw [sending]
    exact Nat.add_comm _ _
  | window closing =>
    rw [s.advance_ltxState d (by rw [state]; exact nofun), state]
    dsimp only
    split <;> exact Nat.add_comm _ _
  | ready => rw [s.advance_ltxState d (by rw [state]; exact nofun), state]; exact Nat.add_comm _ _
  | backoff k aborted => rw [s.advance_ltxState d (by rw [state]; exact nofun), state]; exact Nat.add_comm _ _

/-- The character that completes a frame, once it is known what the checks make of the frame. -/
theorem State.handCharacter_completes {a : Assembly} {rxq : List Request} {cn : Cn} (unmarked : waveMark w = false)
    (assembling : s.lrx.frm = .assembling a) (wellFormed : ¬ (a.bytes.length = 4 ∧ 48 < (waveByte w).toNat))
    (completes : a.declaredBy (waveByte w) = some (a.bytes.length + 1))
    (checked : ((s.advanceTo (edge + 168 * samplePeriods s.cfg.lineRate)).setFrm .outside).completeFrame
        (a.grown (waveByte w)) (a.own || (s.advanceTo (edge + 168 * samplePeriods s.cfg.lineRate)).ownSpan)
        (edge + tChar s.cfg.lineRate) =
      { s.advanceTo (edge + 168 * samplePeriods s.cfg.lineRate) with
        lrx := { (s.advanceTo (edge + 168 * samplePeriods s.cfg.lineRate)).lrx with frm := .outside }
        rxq := rxq, cn := cn }) :
    s.handCharacter w edge =
      let base := s.advanceTo (edge + 168 * samplePeriods s.cfg.lineRate)
      { base with
        lrx :=
          { chr := .waiting, bits := receivedBits w 9, frm := .outside, sil := .since (edge + tChar s.cfg.lineRate)
            quiet := s.lrx.quiet }
        ltx := base.ltx.hears (some (waveByte w, false)) base.now
        rxq := rxq, cn := cn } := by
  refine State.handCharacter_unmarked unmarked (Eq.trans ?_ checked)
  unfold State.assembleUnmarked
  rw [State.advanceTo_frm, assembling]
  dsimp only
  rw [State.assembleByte_eq, if_neg wellFormed, if_pos completes]

/-- The last unmarked character of a frame is handed on. -/
theorem State.frameReceived_runs (out : s.inReset = false) (onLine : s.OnLine edge w) (decides : Decides w false true)
    (last : s.lastOfFrame = true) : Runs (.frameReceived w) s (s.handCharacter w edge) := by
  obtain ⟨start, mark, stop⟩ := decides
  show execFrameReceived w s = _
  unfold execFrameReceived
  rw [State.receiving_eq out onLine]
  exact if_pos (by simp [waveStartValid_eq, waveMark_eq, waveStop_eq, start, mark, stop, last])

/-- Settles O36: the byte completes the frame, whose checks and filter are known. -/
theorem completeFrameIsCheckedAndAdmitted : Obligations.CompleteFrameIsCheckedAndAdmitted := by
  unfold Obligations.CompleteFrameIsCheckedAndAdmitted
  intro w edge s a out onLine decides law assembling declared
  dsimp only
  have unmarked : waveMark w = false := (waveMark_eq w).trans decides.2.1
  have run := State.frameReceived_runs out onLine decides (by simp [State.lastOfFrame, assembling, declared])
  have sound := (State.receptionLaw_iff.1 law).1 a assembling
  have four : a.bytes.length ≠ 4 := fun four => by
    have fields := sound.2
    rw [declared] at fields
    omega
  have completes : a.declaredBy (waveByte w) = some (a.bytes.length + 1) := (if_neg four).trans declared
  obtain ⟨-, header, length, -, crc⟩ := sound.completed completes
  have size : (a.bytes ++ [waveByte w]).length = a.bytes.length + 1 := by simp
  rw [show a.bytes.length - 1 = (a.bytes ++ [waveByte w]).length - 2 by omega] at crc
  have checked := State.completeFrame_eq
    (s := (s.advanceTo (edge + 168 * samplePeriods s.cfg.lineRate)).setFrm .outside) (a.grown (waveByte w))
    (a.own || (s.advanceTo (edge + 168 * samplePeriods s.cfg.lineRate)).ownSpan) (edge + tChar s.cfg.lineRate)
  have bytes : (a.grown (waveByte w)).bytes = a.bytes ++ [waveByte w] := rfl
  have own : (a.grown (waveByte w)).own = a.own := rfl
  rw [crc, bytes, own] at checked
  rw [Bool.or_assoc, ← State.ownSpan_advanceTo, ← State.advanceTo_rxq (s := s) (edge + 168 * samplePeriods s.cfg.lineRate),
    ← State.advanceTo_cn (s := s) (edge + 168 * samplePeriods s.cfg.lineRate)]
  have handed {rxq cn} := State.handCharacter_completes (edge := edge) (rxq := rxq) (cn := cn) unmarked assembling
    (fun malformed => four malformed.1) completes
  refine run.trans (congrArg Host.Outcome.next ?_)
  split
  next crc => exact handed (checked.trans (if_pos crc))
  next crc =>
    replace checked := checked.trans (if_neg crc)
    split
    next malformed => exact handed (checked.trans (if_pos malformed))
    next wellFormed =>
      replace checked := checked.trans (if_neg wellFormed)
      split
      next passed => exact handed (checked.trans (if_pos passed))
      next toStation =>
        replace checked := checked.trans (if_neg toStation)
        have dest : natAt (a.bytes ++ [waveByte w]) 0 = 0 := not_not.1 (not_or.1 toStation).2
        split
        next room =>
          have request := State.requestOf_eq (endTime := edge + tChar s.cfg.lineRate)
            (s := (s.advanceTo (edge + 168 * samplePeriods s.cfg.lineRate)).setFrm .outside) dest (size.trans length)
          have deadline := State.requestDeadline_advance (s := s) (edge + 168 * samplePeriods s.cfg.lineRate - s.now)
            (edge + tChar s.cfg.lineRate) (byteAt (a.bytes ++ [waveByte w]) 2)
          have same : ((s.advanceTo (edge + 168 * samplePeriods s.cfg.lineRate)).setFrm .outside).requestDeadline
              (byteAt (a.bytes ++ [waveByte w]) 2) (edge + tChar s.cfg.lineRate) = _ := deadline
          rw [request, same] at checked
          exact handed (checked.trans (if_pos room))
        next full => exact handed (checked.trans (if_neg full))

/-! ### Framing errors (R124) -/

/-- The order of LRX's steps at a stop bit decided as 0: time, the count, the echo, and a line that is busy. -/
theorem State.takeFramingError_eq : s.takeFramingError w edge =
    let base := s.advanceTo (edge + 168 * samplePeriods s.cfg.lineRate)
    { base with
      lrx :=
        { chr := .waiting, bits := receivedBits w 9, frm := .outside, sil := .awaitOne (w.s9.getLsbD 10)
          quiet := s.lrx.quiet }
      ltx := base.ltx.hears none base.now
      cn := if (base.de || s.lrx.quiet.isSome) || s.lrx.frm.own then s.cn else { s.cn with
        counters := { s.cn.counters with framing := min (s.cn.counters.framing + 1) 65535 } } } := by
  have counted (t : State) (own : Bool) : (if own then t else t.countFraming) = { t with
      cn := if own then t.cn else
        { t.cn with counters := { t.cn.counters with framing := min (t.cn.counters.framing + 1) 65535 } } } := by
    cases own <;> rfl
  unfold State.takeFramingError
  dsimp only [handOn]
  rw [counted, State.hearEcho_eq, State.ownSpan_advanceTo, State.advanceTo_frm, State.advanceTo_cn, ← waveReceived_eq,
    ← State.advanceTo_quiet (s := s) (edge + 168 * samplePeriods s.cfg.lineRate)]
  rfl

/-- Settles O37: one framing error, with what the frame in assembly and the attempt say of its count. -/
theorem framingErrorAbandonsTheFrame : Obligations.FramingErrorAbandonsTheFrame := by
  unfold Obligations.FramingErrorAbandonsTheFrame
  intro w edge s out onLine start stop
  show execFramingError w s = _
  unfold execFramingError
  rw [State.receiving_eq out onLine]
  refine (if_pos (by simp [waveStartValid_eq, waveStop_eq, start, stop])).trans (congrArg Host.Outcome.next ?_)
  rw [State.takeFramingError_eq]
  unfold FrameAsm.own
  cases s.lrx.frm <;> rfl

/-! ### Edges and silence (R122, R124, R125) -/

/-- A start edge of a line that last read 1, or has been silent since an instant. -/
theorem State.startEdge_runs {dt : Nat} (out : s.inReset = false) (waiting : s.lrx.chr = .waiting)
    (high : s.lrx.sil ≠ .awaitOne false) :
    Runs (.startEdge ⟨dt, w⟩) s { (s.advance dt).settleSilence with
      lrx := { (s.advance dt).settleSilence.lrx with
        chr := .start (s.advance dt).settleSilence.now w, bits := [], sil := .held } } := by
  show execStartEdge ⟨dt, w⟩ s = _
  unfold execStartEdge
  exact if_neg (by simp [out, waiting, high])

theorem LtxState.settleBackoff_of_not_backoff {l : LtxState} (rate t now : Nat) (other : ∀ k aborted, l ≠ .backoff k aborted) :
    l.settleBackoff rate t now = l := by
  cases l with
  | backoff k aborted => exact absurd rfl (other k aborted)
  | _ => rfl

/-- BACKOFF that a silence has ended, on a transmitter that time alone has moved (R139, R143). -/
theorem State.settleBackoff_advance (dt rate t0 now : Nat) :
    { (s.advance dt).ltx with state := (s.advance dt).ltx.state.settleBackoff rate t0 now } =
      match s.ltx.state with
      | .backoff k aborted =>
        if max t0 aborted + (2 + 4 * k) * tChar rate ≤ now then { (s.advance dt).ltx with state := .ready }
        else (s.advance dt).ltx
      | _ => (s.advance dt).ltx := by
  have kept (other : ∀ k aborted, (s.advance dt).ltx.state ≠ .backoff k aborted) :
      { (s.advance dt).ltx with state := (s.advance dt).ltx.state.settleBackoff rate t0 now } = (s.advance dt).ltx := by
    rw [LtxState.settleBackoff_of_not_backoff rate t0 now other]
  cases state : s.ltx.state with
  | sending a =>
    obtain ⟨a', sending⟩ := s.advance_sending dt state
    exact kept (by rw [sending]; exact nofun)
  | backoff k aborted =>
    have same : (s.advance dt).ltx.state = .backoff k aborted := by
      rw [s.advance_ltxState dt (by rw [state]; exact nofun), state]
    dsimp only
    rw [same, LtxState.settleBackoff]
    unfold backoffEnd tBack
    split
    · rfl
    · rw [← same]
  | ready => exact kept (by rw [s.advance_ltxState dt (by rw [state]; exact nofun), state]; exact nofun)
  | window closing => exact kept (by rw [s.advance_ltxState dt (by rw [state]; exact nofun), state]; exact nofun)

/-- Settles O32: the start edge by the silence it ends, the false start, and the end of a break. -/
theorem edgesRestartTheSilence : Obligations.EdgesRestartTheSilence := by
  unfold Obligations.EdgesRestartTheSilence
  refine ⟨fun dt w s out waiting => ⟨fun t0 silent => ?_, fun high => ?_, fun low => ?_⟩,
    fun edge w high s out start one => ?_, fun dt last s out awaiting => ?_⟩
  · refine (State.startEdge_runs out waiting (by rw [silent]; exact nofun)).trans (congrArg Host.Outcome.next ?_)
    have silent' : (s.advance dt).lrx.sil = .since t0 := (s.advance_sil dt).trans silent
    rw [State.settleSilence_eq _ t0 silent']
    dsimp only
    rw [State.settleBackoff_advance, s.advance_cfg, s.advance_now, s.advance_frm, s.advance_cn, s.advance_quiet]
    all_goals rfl
  · have high' : (s.advance dt).lrx.sil = .awaitOne true := (s.advance_sil dt).trans high
    have settled : (s.advance dt).settleSilence = s.advance dt := by
      unfold State.settleSilence
      rw [high']
    refine (State.startEdge_runs out waiting (by rw [high]; exact nofun)).trans (congrArg Host.Outcome.next ?_)
    rw [settled, ← s.advance_now dt, ← s.advance_frm dt, ← s.advance_quiet dt]
  · show execStartEdge ⟨dt, w⟩ s = _
    unfold execStartEdge
    exact if_pos (.inr (.inr low))
  · have settled : (s.advanceTo (edge + 8 * samplePeriods s.cfg.lineRate)).lrx = s.lrx := by
      rw [State.advanceTo, s.advance_eq _ out]
      exact (Lrx.settle_start _ _ edge w s.lrx start).trans (if_neg (by simp [one]))
    have next : edge + startDecision s.cfg.lineRate + samplePeriods s.cfg.lineRate =
        edge + 9 * samplePeriods s.cfg.lineRate := by
      unfold startDecision
      omega
    show execFalseStart w high s = _
    unfold execFalseStart
    rw [State.receiving_eq out (.inl start)]
    refine (if_pos ⟨start, by simp [waveStartValid_eq, one]⟩).trans (congrArg Host.Outcome.next ?_)
    rw [falseStartSilence, next, ← settled]
    rfl
  · show execBreakEnd dt s = _
    unfold execBreakEnd
    rw [out, awaiting]
    rw [← s.advance_now dt]
    rfl

end Sys2Proof.Machine

/-! PROOF. The transmitter (chapter 8): the choice of a frame, the ends of an attempt, and the timed events. -/

namespace Sys2Proof.Machine

variable {s : State}

@[simp] theorem State.advanceTo_txq (t : Nat) : (s.advanceTo t).txq = s.txq := s.advance_txq _

@[simp] theorem State.advanceTo_ctl (t : Nat) : (s.advanceTo t).ctl = s.ctl := s.advance_ctl _

@[simp] theorem State.advanceTo_tail (t : Nat) : (s.advanceTo t).ltx.tail = s.ltx.tail := s.advance_tail _

@[simp] theorem State.advanceTo_completions (t : Nat) : (s.advanceTo t).completions = s.completions := s.advance_completions _

theorem State.advance_free (d : Nat) : (s.advance d).ros.free = s.ros.free := by
  obtain ⟨n, lowered, -⟩ := s.advance_ros d
  rw [lowered]
  rfl

/-! ### The choice (R140) -/

/-- The ANSWER of the earliest deadline not passed, nearer the head between equals, is the choice (R140). -/
theorem bestAnswer_eq {t i d : Nat} {q : List Entry} {e : Entry} (stands : q[i]? = some e) (kind : e.kind = .answer d)
    (before : t ≤ d) (first : ∀ j e' d', q[j]? = some e' → e'.kind = .answer d' → t ≤ d' → d < d' ∨ d = d' ∧ i ≤ j) :
    bestAnswer t q 0 = some (i, d) := by
  obtain ⟨⟨j, dj⟩, best⟩ := Option.ne_none_iff_exists'.1 (bestAnswer_ne_none t q 0 i e d stands kind before)
  obtain ⟨n, x, place, stands', kind', before', first'⟩ := bestAnswer_some t q 0 j dj best
  have ahead := first n x dj stands' kind' before'
  have ahead' := first' i e d stands kind before
  rw [best]
  congr 2 <;> omega

/-- With no ANSWER in time, there is none to choose (R140). -/
theorem bestAnswer_none {t : Nat} {q : List Entry} (late : ∀ e ∈ q, ¬ ∃ d, e.kind = .answer d ∧ t ≤ d) :
    bestAnswer t q 0 = none := by
  refine Option.eq_none_iff_forall_not_mem.2 fun ⟨i, d⟩ best => ?_
  obtain ⟨n, e, -, stands, kind, before, -⟩ := bestAnswer_some t q 0 i d best
  exact late e (List.mem_of_getElem? stands) ⟨d, kind, before⟩

theorem Entry.unsolicited_iff (e : Entry) : e.unsolicited = true ↔ ∀ d, e.kind ≠ .answer d := by
  unfold Entry.unsolicited
  cases e.kind <;> simp

/-- With no ANSWER in time, the unsolicited entry nearest the head is the choice (R140). -/
theorem chooseEntry_unsolicited {t i : Nat} {q : List Entry} {e : Entry} (passed : bestAnswer t q 0 = none)
    (stands : q[i]? = some e) (unsolicited : ∀ d, e.kind ≠ .answer d)
    (nearest : ∀ j e', j < i → q[j]? = some e' → ∃ d, e'.kind = .answer d) : chooseEntry t q = some i := by
  obtain ⟨inside, is⟩ := List.getElem?_eq_some_iff.1 stands
  unfold chooseEntry
  rw [passed]
  refine List.findIdx?_eq_some_iff_getElem.2 ⟨inside, by rw [is]; exact e.unsolicited_iff.2 unsolicited, fun j ahead => ?_⟩
  obtain ⟨d, kind⟩ := nearest j q[j] ahead (List.getElem?_eq_getElem _)
  simp [Entry.unsolicited, kind]

theorem chooseEntry_none {t : Nat} {q : List Entry} (passed : bestAnswer t q 0 = none)
    (answers : ∀ e ∈ q, ∃ d, e.kind = .answer d) : chooseEntry t q = none := by
  unfold chooseEntry
  rw [passed]
  refine List.findIdx?_eq_none_iff.2 fun e mem => ?_
  obtain ⟨d, kind⟩ := answers e mem
  simp [Entry.unsolicited, kind]

/-! ### The start (R139) -/

theorem modify_eq_set {α : Type} {q : List α} {i : Nat} {x : α} (f : α → α) (stands : q[i]? = some x) :
    q.modify i f = q.set i (f x) := by
  rw [List.modify_eq_set_getElem?, stands]
  rfl

/-- LTX starts a chosen entry (R139). -/
theorem State.startAttempt_entry {i : Nat} {e : Entry} (chosen : chooseEntry s.now s.txq = some i)
    (stands : s.txq[i]? = some e) : s.startAttempt = { s with
      txq := s.txq.set i { e with inAttempt := true }
      ltx := { s.ltx with state := s.attempt .entry (frameBytes e.frame) } } := by
  unfold State.startAttempt
  rw [chosen]
  dsimp only
  rw [stands]
  dsimp only
  rw [markAttempt, modify_eq_set _ stands]
  rfl

/-- With no entry to send LTX starts the due beacon (R140). -/
theorem State.startAttempt_beacon (idle : chooseEntry s.now s.txq = none) (due : s.ltx.beaconPending = true) :
    s.startAttempt = { s with
      ltx := { s.ltx with
        state := s.attempt (.beacon s.cfg.joinSlots) (frameBytes s.beaconFrame), beaconPending := false } } := by
  unfold State.startAttempt
  rw [idle]
  exact if_pos due

/-- An attempt starts at the instant at which READY and a silence of tTURN both hold, if there is a frame to send. -/
theorem State.txAttemptStart_runs {t0 : Nat} (out : s.inReset = false) (ready : s.ltx.state = .ready)
    (tail : s.ltx.tail = none) (silent : s.lrx.sil = .since t0)
    (frame : (s.advanceTo (max s.now (t0 + 2 * tChar s.cfg.lineRate))).frameToSend = true) :
    Runs .txAttemptStart s (s.advanceTo (max s.now (t0 + 2 * tChar s.cfg.lineRate))).startAttempt := by
  have instant : s.startInstant = some (max s.now (t0 + 2 * tChar s.cfg.lineRate)) := by
    unfold State.startInstant
    rw [out, ready, tail, silent]
    rfl
  show execTxAttemptStart s = _
  unfold execTxAttemptStart
  rw [instant]
  exact if_pos frame

/-- Settles O38: by the three steps of the choice. -/
theorem attemptStartsByTheChoice : Obligations.AttemptStartsByTheChoice := by
  unfold Obligations.AttemptStartsByTheChoice
  refine ⟨by decide, fun rate => ⟨rfl, rfl⟩, fun s t0 out ready tail silent => ?_⟩
  have now : (s.advanceTo (max s.now (t0 + 2 * tChar s.cfg.lineRate))).now = max s.now (t0 + 2 * tChar s.cfg.lineRate) := by
    rw [State.advanceTo_now]
    omega
  have run := State.txAttemptStart_runs out ready tail silent
  have attempt (kind : AttemptKind) (f : Frame) :
      (s.advanceTo (max s.now (t0 + 2 * tChar s.cfg.lineRate))).attempt kind (frameBytes f) = .sending
        { kind := kind, bytes := frameBytes f, index := 0, echo := none, abortAtEnd := false
          drive := { byte := (frameBytes f).getD 0 0, mark := true, start := max s.now (t0 + 2 * tChar s.cfg.lineRate)
                     bit := tBit s.cfg.lineRate } } := by
    unfold State.attempt
    rw [now, State.advanceTo_cfg]
  have starts {i : Nat} {e : Entry} (stands : s.txq[i]? = some e)
      (chosen : chooseEntry (max s.now (t0 + 2 * tChar s.cfg.lineRate)) s.txq = some i) :
      Runs .txAttemptStart s { s.advanceTo (max s.now (t0 + 2 * tChar s.cfg.lineRate)) with
        txq := s.txq.set i { e with inAttempt := true }
        ltx := { (s.advanceTo (max s.now (t0 + 2 * tChar s.cfg.lineRate))).ltx with
          state := (s.advanceTo (max s.now (t0 + 2 * tChar s.cfg.lineRate))).attempt .entry (frameBytes e.frame) } } := by
    rw [← now, ← State.advanceTo_txq (s := s) (max s.now (t0 + 2 * tChar s.cfg.lineRate))] at chosen
    rw [← State.advanceTo_txq (s := s) (max s.now (t0 + 2 * tChar s.cfg.lineRate))] at stands
    have started := State.startAttempt_entry chosen stands
    rw [State.advanceTo_txq] at started
    exact (run (by unfold State.frameToSend; rw [chosen]; rfl)).trans (congrArg Host.Outcome.next started)
  refine ⟨fun i e d stands kind before first => ?_, fun late => ⟨fun i e stands unsolicited nearest => ?_,
    fun answers due => ?_⟩⟩
  · have chosen := starts stands (by unfold chooseEntry; rw [bestAnswer_eq stands kind before first])
    rw [attempt] at chosen
    exact chosen
  · have chosen := starts stands (chooseEntry_unsolicited (bestAnswer_none late) stands unsolicited nearest)
    rw [attempt] at chosen
    exact chosen
  · have idle := chooseEntry_none (bestAnswer_none late) answers
    rw [← now, ← State.advanceTo_txq (s := s) (max s.now (t0 + 2 * tChar s.cfg.lineRate))] at idle
    have started := State.startAttempt_beacon idle due
    have beacon : (s.advanceTo (max s.now (t0 + 2 * tChar s.cfg.lineRate))).beaconFrame =
        { ftype := 2, dest := 63, code := 0xC0, tag := 0
          payload := be16 s.ctl.epoch.toNat ++ [byte (policyNumber s.cfg.policy), byte s.cfg.joinSlots,
            byte s.ros.free.length] ++ be16 s.cfg.leaseTime } := by
      unfold State.beaconFrame State.epochBytes
      rw [State.advanceTo_ctl, State.advanceTo_cfg, State.advanceTo, State.advance_free]
    have slots : (s.advanceTo (max s.now (t0 + 2 * tChar s.cfg.lineRate))).cfg.joinSlots = s.cfg.joinSlots := by
      rw [State.advanceTo_cfg]
    rw [attempt, beacon, slots] at started
    dsimp only at started
    rw [State.advanceTo_tail, tail] at started
    exact (run (by unfold State.frameToSend; rw [due, Bool.or_true])).trans (congrArg Host.Outcome.next started)

/-! ### The end of an attempt (R141, R143 to R145, R149) -/

theorem Entry.expired_iff {e : Entry} {now : Nat} {b : Bool} :
    e.expired now b = true ↔ ∃ d, e.kind = .answer d ∧ (d < now ∨ d = now ∧ b = true) := by
  unfold Entry.expired deadlinePassed
  cases e.kind <;> simp

theorem State.raiseCompletion_eq (e : Entry) : s.raiseCompletion e = { s with
    completions := match e.kind with
      | .evict slot => s.completions ++ [slot]
      | _ => s.completions } := by
  unfold State.raiseCompletion
  cases e.kind <;> rfl

section Ends

variable {before after : List Entry} {e : Entry} {b : Bool} {finish : Nat}

/-- An aborted attempt whose answer is late (R141). -/
theorem State.abortEntry_late (txq : s.txq = before ++ e :: after)
    (late : ∃ d, e.kind = .answer d ∧ (d < s.now ∨ d = s.now ∧ b = true)) :
    s.abortEntry before.length e finish b = { s with
      txq := before ++ after, ltx := { s.ltx with state := .backoff (e.attempts + 1) finish }, cn := s.cn.lateOnce } := by
  unfold State.abortEntry
  dsimp only
  rw [if_pos (Entry.expired_iff.2 late), txq, eraseIdx_split]
  rfl

/-- An aborted attempt that comes to TX_ATTEMPTS (R144). -/
theorem State.abortEntry_abandoned (txq : s.txq = before ++ e :: after)
    (inTime : ¬ ∃ d, e.kind = .answer d ∧ (d < s.now ∨ d = s.now ∧ b = true)) (last : s.cfg.txAttempts ≤ e.attempts + 1) :
    s.abortEntry before.length e finish b = { s with
      txq := before ++ after
      ltx := { s.ltx with state := .backoff (e.attempts + 1) finish }
      completions := match e.kind with
        | .evict slot => s.completions ++ [slot]
        | _ => s.completions
      cn := Cn.noticed 5 { s.cn with
        counters := { s.cn.counters with abandons := min (s.cn.counters.abandons + 1) 65535 } } } := by
  unfold State.abortEntry
  dsimp only
  rw [if_neg (fun expired => inTime (Entry.expired_iff.1 expired)), if_pos last, txq, eraseIdx_split,
    State.raiseCompletion_eq]
  rfl

/-- An aborted attempt that is kept for another (R143). -/
theorem State.abortEntry_kept (txq : s.txq = before ++ e :: after)
    (inTime : ¬ ∃ d, e.kind = .answer d ∧ (d < s.now ∨ d = s.now ∧ b = true)) (more : e.attempts + 1 < s.cfg.txAttempts) :
    s.abortEntry before.length e finish b = { s with
      txq := before ++ { e with attempts := e.attempts + 1, inAttempt := false } :: after
      ltx := { s.ltx with state := .backoff (e.attempts + 1) finish } } := by
  unfold State.abortEntry
  dsimp only
  rw [if_neg (fun expired => inTime (Entry.expired_iff.1 expired)), if_neg (by omega), txq, set_split]
  rfl

end Ends

/-- An attempt that is to be aborted ends with its character (R142, R150). -/
theorem State.transmitAbort_runs {a : Attempt} (b : Bool) (out : s.inReset = false) (sending : s.ltx.state = .sending a)
    (fails : a.abortAtEnd = true ∨ a.echo ≠ some true) :
    Runs (.transmitAbort b) s ((s.advanceTo (a.drive.start + 11 * a.drive.bit)).abortAttempt a b) := by
  show execTransmitAbort b s = _
  unfold execTransmitAbort
  rw [out, sending]
  exact if_pos fails

/-- Settles O39: a beacon, and an entry that is late, abandoned or kept. -/
theorem abortedAttempt : Obligations.AbortedAttempt := by
  unfold Obligations.AbortedAttempt
  intro b s a out sending fails
  have run := State.transmitAbort_runs b out sending fails
  refine ⟨fun beacon => ?_, fun before after e entry split marked unmarked => ?_⟩
  · refine run.trans (congrArg Host.Outcome.next ?_)
    unfold State.abortAttempt
    cases kind : a.kind with
    | entry => exact absurd kind beacon
    | beacon slots => rfl
  · have txq := (State.advanceTo_txq (s := s) (a.drive.start + 11 * a.drive.bit)).trans split
    have aborts : (s.advanceTo (a.drive.start + 11 * a.drive.bit)).abortAttempt a b =
        (s.advanceTo (a.drive.start + 11 * a.drive.bit)).abortEntry before.length e a.drive.finish b := by
      unfold State.abortAttempt
      rw [entry, State.attemptEntry_eq _ before after e txq marked unmarked]
    rw [aborts] at run
    dsimp only
    rw [← State.advanceTo_cfg (s := s) (a.drive.start + 11 * a.drive.bit),
      ← State.advanceTo_cn (s := s) (a.drive.start + 11 * a.drive.bit),
      ← State.advanceTo_completions (s := s) (a.drive.start + 11 * a.drive.bit)]
    exact ⟨fun late => run.trans (congrArg Host.Outcome.next (State.abortEntry_late txq late)),
      fun inTime last => run.trans (congrArg Host.Outcome.next (State.abortEntry_abandoned txq inTime last)),
      fun inTime more => run.trans (congrArg Host.Outcome.next (State.abortEntry_kept txq inTime more))⟩

/-- Settles O40: the beacon's window, and the entry that leaves TXQ. -/
theorem completedAttempt : Obligations.CompletedAttempt := by
  unfold Obligations.CompletedAttempt
  intro s a out sending whole passed last
  have run : Runs .transmitComplete s ((s.advanceTo (a.drive.start + 11 * a.drive.bit)).completeAttempt a) := by
    show execTransmitComplete s = _
    unfold execTransmitComplete
    rw [out, sending]
    exact if_pos ⟨whole, passed, last⟩
  refine ⟨fun slots beacon => ?_, fun before after e entry split marked unmarked => ?_⟩
  · refine run.trans (congrArg Host.Outcome.next ?_)
    unfold State.completeAttempt State.openWindow
    rw [beacon, ← State.advanceTo_cfg (s := s) (a.drive.start + 11 * a.drive.bit)]
    dsimp only
    by_cases none : slots = 0
    · rw [if_neg (by omega), if_pos none]
      rfl
    · rw [if_pos (by omega), if_neg none]
      rfl
  · have txq := (State.advanceTo_txq (s := s) (a.drive.start + 11 * a.drive.bit)).trans split
    refine run.trans (congrArg Host.Outcome.next ?_)
    unfold State.completeAttempt
    rw [entry, State.attemptEntry_eq _ before after e txq marked unmarked,
      ← State.advanceTo_completions (s := s) (a.drive.start + 11 * a.drive.bit)]
    dsimp only
    rw [State.raiseCompletion_eq, txq, eraseIdx_split]
    rfl

/-! ### The timed events (R138, R141, R146, R149) -/

/-- The ANSWER not in an attempt of the earliest deadline, nearer the head between equals, is the first (R141). -/
theorem firstDeadline_eq (before after : List Entry) (e : Entry) (d k : Nat) (kind : e.kind = .answer d)
    (unsent : e.inAttempt = false)
    (ahead : ∀ e' d', e' ∈ before → e'.kind = .answer d' → e'.inAttempt = false → d < d')
    (behind : ∀ e' d', e' ∈ after → e'.kind = .answer d' → e'.inAttempt = false → d ≤ d') :
    firstDeadline (before ++ e :: after) k = some (k + before.length, d) := by
  induction before generalizing k with
  | nil =>
    rw [List.nil_append, firstDeadline, kind, unsent]
    dsimp only
    split
    next j dj later =>
      obtain ⟨before', e', after', rfl, -, kind', unsent'⟩ := firstDeadline_some after (k + 1) j dj later
      have notBefore := behind e' dj (by simp) kind' unsent'
      rw [if_neg (by omega)]
      rfl
    next => rfl
  | cons x before ih =>
    have rest := ih (k + 1) fun e' d' mem => ahead e' d' (List.mem_cons_of_mem x mem)
    rw [show k + 1 + before.length = k + (x :: before).length by rw [List.length_cons]; omega] at rest
    rw [List.cons_append, firstDeadline]
    split
    next dx kind' unsent' =>
      have later := ahead x dx List.mem_cons_self kind' unsent'
      rw [rest]
      exact if_pos later
    next => exact rest

/-- Settles O41: each event runs line time to its own instant. -/
theorem timedEventsOfTheTransmitter : Obligations.TimedEventsOfTheTransmitter := by
  unfold Obligations.TimedEventsOfTheTransmitter
  refine ⟨fun s out => ⟨fun closing window => ?_, fun k aborted t0 backoff silent => ?_, fun d cut => ?_⟩,
    fun s before after e d out split kind unsent ahead behind => ?_, fun s b out running timer => ?_⟩
  · show execJoinWindowClose s = _
    unfold execJoinWindowClose
    rw [out, window]
    rfl
  · show execBackoffEnd s = _
    unfold execBackoffEnd
    rw [out, backoff, silent]
    rfl
  · show execCutCharacterEnd s = _
    unfold execCutCharacterEnd
    rw [out, cut]
    rfl
  · show execAnswerDeadlinePassed s = _
    unfold execAnswerDeadlinePassed
    rw [out, split, firstDeadline_eq before after e d 0 kind unsent ahead behind, Nat.zero_add,
      ← State.advanceTo_cn (s := s) d]
    dsimp only
    rw [eraseIdx_split]
    rfl
  · obtain ⟨clk, -, pending⟩ := State.advance_running out running (b.period - b.elapsed)
    refine ⟨?_, ?_, ?_⟩
    · show execBeaconDue s = _
      unfold execBeaconDue
      rw [out, running, timer]
    · rw [pending, Clocks.makesBeaconDue_some timer, decide_eq_true (by omega), Bool.or_true]
    · rw [clk, timer]
      dsimp only [Option.map_some]
      rw [BeaconTimer.run, if_neg (by omega), show b.elapsed + (b.period - b.elapsed) - b.period = b.elapsed - b.period by omega]

end Sys2Proof.Machine

/-! PROOF. What the host sees (10.1, 11.5): the status byte, INT_N, TXD, DE and SDO, in every state. -/

namespace Sys2Proof.Machine

variable {s : State}

/-! ### The status byte (R168) -/

/-- The flags of the status byte, from bit 7 down (R206). -/
theorem State.statusByte_flags :
    s.statusByte.getLsbD 7 = (s.ctl.mode == .held) ∧ s.statusByte.getLsbD 6 = s.cu.busy ∧
    s.statusByte.getLsbD 5 = s.cu.resultReady ∧ s.statusByte.getLsbD 4 = (s.cn.changes != 0) ∧
    s.statusByte.getLsbD 3 = (s.cn.notices != 0) ∧ s.statusByte.getLsbD 2 = s.cn.latch.isSome ∧
    s.statusByte.getLsbD 1 = s.hp.refused ∧ s.statusByte.getLsbD 0 = false := by
  unfold State.statusByte
  simp only [BitVec.getLsbD_append, BitVec.getLsbD_ofBool]
  simp

theorem CmdUnit.busy_iff {c : CmdUnit} : c.busy = true ↔ ∃ code args, c = .executing code args := by
  cases c <;> simp [CmdUnit.busy]

theorem CmdUnit.resultReady_iff {c : CmdUnit} : c.resultReady = true ↔ ∃ r, c = .ready r := by
  cases c <;> simp [CmdUnit.resultReady]

/-! ### INT_N (R195) -/

theorem bitVec_ne_zero_iff {w : Nat} (x : BitVec w) : (x != 0) = true ↔ ∃ k < w, x.getLsbD k = true := by
  rw [bne_iff_ne, ← not_iff_not, not_not]
  push Not
  exact ⟨fun zero k inside => by rw [zero]; simp, fun low => BitVec.eq_of_getLsbD_eq fun k inside => by simpa using low k inside⟩

/-- The conditions that drive INT_N low, each with its enable. -/
theorem State.interrupt_iff : s.interrupt = true ↔
    (∃ slot < 64, s.cn.changes.getLsbD slot = true) ∧ s.cfg.noticeEnable.getLsbD 7 = true ∨
    (∃ k < 7, s.cn.notices.getLsbD k = true ∧ s.cfg.noticeEnable.getLsbD k = true) ∨
    (∃ r, s.cu = .ready r) ∧ s.cfg.noticeEnable.getLsbD 8 = true ∨
    (∃ l, s.cn.latch = some l) ∧ s.cfg.noticeEnable.getLsbD 6 = true := by
  have notices : ((s.cn.notices &&& s.cfg.noticeEnable.setWidth 7) != 0) = true ↔
      ∃ k < 7, s.cn.notices.getLsbD k = true ∧ s.cfg.noticeEnable.getLsbD k = true := by
    rw [bitVec_ne_zero_iff]
    refine exists_congr fun k => and_congr_right fun inside => ?_
    simp [inside]
  simp only [State.interrupt, Bool.or_eq_true, Bool.and_eq_true, notices, bitVec_ne_zero_iff, CmdUnit.resultReady_iff,
    Option.isSome_iff_exists, or_assoc]

/-! ### TXD (R204, R209) -/

theorem charLevel_data (b : Byte) (mark : Bool) {k : Nat} (data : k < 8) : charLevel b mark (k + 1) = b.getLsbD k := by
  unfold charLevel
  rw [if_neg (by omega), if_pos (by omega), Nat.add_sub_cancel]

theorem charLevel_stop (b : Byte) (mark : Bool) {k : Nat} (stop : 10 ≤ k) : charLevel b mark k = true := by
  unfold charLevel
  rw [if_neg (by omega), if_neg (by omega), if_neg (by omega)]

theorem State.txd_driving {d : Drive} (driving : s.driving = some d) :
    s.txd = charLevel d.byte d.mark ((s.now - d.start) / d.bit) := by
  unfold State.txd
  rw [driving]

/-- Settles O42: flag by flag and pin by pin. -/
theorem statusByteAndPins : Obligations.StatusByteAndPins := by
  unfold Obligations.StatusByteAndPins
  intro s
  obtain ⟨held, busy, ready, changes, notices, latch, refused, low⟩ := State.statusByte_flags (s := s)
  refine ⟨held, by rw [busy]; exact CmdUnit.busy_iff, by rw [ready]; exact CmdUnit.resultReady_iff, changes, notices,
    latch, refused, low, ?_, rfl, fun d driving => ⟨?_, ?_⟩, fun idle => ⟨?_, ?_⟩, ?_⟩
  · rw [← State.interrupt_iff]
    simp [State.intN]
  · simp [State.de, driving]
  · rw [State.txd_driving driving]
    refine ⟨fun start => ?_, fun k data position => ?_, fun mark => ?_, fun stop => charLevel_stop _ _ stop⟩
    · rw [start]; rfl
    · rw [position, charLevel_data _ _ data]
    · rw [mark]; rfl
  · simp [State.de, idle]
  · simp [State.txd, idle]
  · simp [State.sdoDriven, Option.isSome_iff_exists]

end Sys2Proof.Machine

/-! PROOF. The host port's transactions (10.1, 10.2, 11.3): what each part of a transaction does, whatever its code, and what
STATUS, SUBMIT, FETCH, CHANGES and CONFLICT make of it. -/

namespace Sys2Proof.Machine

variable {s : State} {code : Byte} {prepare : Prepare} {finish : Txn → State → State} {t : Txn}

/-! ### The parts of a transaction (R167) -/

theorem State.transaction_select (ready : s.portReady = true) (idle : s.hp.txn = none) :
    s.transaction code prepare finish .select = { s with
      hp := { s.hp with txn := some { code := none, ins := [], plan := [], loaded := false }, sdo := [s.statusByte] } } :=
  if_pos (by rw [ready, idle]; rfl)

/-- At the end of byte 0 the rule of the code prepares what goes out. -/
theorem State.transaction_code {plan : List Byte} {loaded : Bool} {cn : Cn} (active : s.hp.txn = some t)
    (begun : t.code = none) (prepared : prepare s = ((plan, loaded), { s with cn := cn })) :
    s.transaction code prepare finish .code = { s with
      hp := { s.hp with txn := some { code := some code, ins := [], plan := plan, loaded := loaded } }, cn := cn } := by
  show s.portCode code prepare = _
  unfold State.portCode
  rw [active]
  dsimp only
  rw [if_pos begun, prepared]
  rfl

theorem State.transaction_clock (active : s.hp.txn = some t) (coded : t.code = some code) (bytes : List Byte) :
    s.transaction code prepare finish (.clock bytes) = { s with
      hp := { s.hp with
        txn := some { t with ins := t.ins ++ bytes }, sdo := s.hp.sdo ++ s.portOut t bytes.length } } := by
  show s.portClock code bytes = _
  unfold State.portClock
  rw [active]
  exact if_pos coded

/-- A transaction that ends before byte 0 was complete has no effect. -/
theorem State.transaction_deselect_begun (active : s.hp.txn = some t) (begun : t.code = none) :
    s.transaction code prepare finish .deselect = { s with hp := { s.hp with txn := none } } := by
  show s.portDeselect code finish = _
  unfold State.portDeselect
  rw [active]
  exact if_pos begun

theorem State.transaction_deselect (active : s.hp.txn = some t) (coded : t.code = some code) :
    s.transaction code prepare finish .deselect = finish t { s with hp := { s.hp with txn := none } } := by
  show s.portDeselect code finish = _
  unfold State.portDeselect
  rw [active]
  exact (if_neg (by rw [coded]; exact nofun)).trans (if_pos coded)

theorem State.transaction_parts (ready : s.portReady = true) (idle : s.hp.txn = none) (bytes : List Byte) :
    s.transaction code prepare finish (.whole bytes) =
      (((s.transaction code prepare finish .select).transaction code prepare finish .code).transaction code prepare finish
        (.clock bytes)).transaction code prepare finish .deselect :=
  if_pos (by rw [ready, idle]; rfl)

/-- A whole transaction is its parts one after another. -/
theorem State.transaction_whole {plan : List Byte} {loaded : Bool} {cn : Cn} (ready : s.portReady = true)
    (idle : s.hp.txn = none)
    (prepared : ∀ hp, prepare { s with hp := hp } = ((plan, loaded), { s with hp := hp, cn := cn })) (bytes : List Byte) :
    s.transaction code prepare finish (.whole bytes) =
      finish { code := some code, ins := bytes, plan := plan, loaded := loaded }
        { s with
          hp := { s.hp with
            txn := none
            sdo := s.statusByte ::
              State.portOut { code := some code, ins := [], plan := plan, loaded := loaded } bytes.length
                { s with cn := cn } }
          cn := cn } := by
  rw [State.transaction_parts ready idle, State.transaction_select ready idle]
  have coded := State.transaction_code (finish := finish) (code := code) (t := ⟨none, [], [], false⟩)
    (s := { s with hp := { s.hp with txn := some ⟨none, [], [], false⟩, sdo := [s.statusByte] } }) rfl rfl (prepared _)
  refine (congrArg (fun u => (u.transaction code prepare finish (.clock bytes)).transaction code prepare finish .deselect)
    coded).trans ?_
  exact (congrArg (State.transaction code prepare finish .deselect) (State.transaction_clock rfl rfl bytes)).trans
    (State.transaction_deselect rfl rfl)

/-- The bytes that go out under another code than STATUS's are the prepared ones, then zero bytes. -/
theorem State.portOut_planned (n : Nat) (other : t.code ≠ some 0x01) :
    s.portOut t n = (List.range n).map fun i => t.plan.getD (t.ins.length + i) 0 := if_neg other

theorem State.portOut_status (n : Nat) (status : t.code = some 0x01) : s.portOut t n = List.replicate n s.statusByte :=
  if_pos status

theorem State.portOut_nothing (n : Nat) (other : t.code ≠ some 0x01) (nothing : t.plan = []) :
    s.portOut t n = List.replicate n 0 := by
  rw [State.portOut_planned n other, nothing]
  simp

/-! ### STATUS and unknown codes (R167, R169) -/

theorem prepareNothing_eq (s : State) : prepareNothing s = (([], false), { s with cn := s.cn }) := rfl

theorem State.unknownTransaction_runs (dt : Nat) (unknown : code.toNat = 0 ∨ 5 < code.toNat) (phase : PortPhase) :
    Runs (.unknownTransaction dt code phase) s ((s.advance dt).transaction code prepareNothing finishNothing phase) :=
  if_pos unknown

theorem unknown_ne_status (unknown : code.toNat = 0 ∨ 5 < code.toNat) : (some code : Option Byte) ≠ some 0x01 := by
  rintro ⟨rfl⟩
  revert unknown
  decide

/-- Settles O43: each part of the two transactions. -/
theorem statusAndUnknownTransactions : Obligations.StatusAndUnknownTransactions := by
  unfold Obligations.StatusAndUnknownTransactions
  intro dt s out started
  have ready := s.advance_portReady dt out started
  dsimp only
  rw [← s.advance_hp dt, ← s.advance_statusByte dt]
  have status {phase : PortPhase} {u : State}
      (moves : (s.advance dt).transaction 0x01 prepareNothing finishNothing phase = u) : Runs (.status dt phase) s u :=
    congrArg Host.Outcome.next moves
  refine ⟨fun idle => ⟨fun bytes => ?_, status (State.transaction_select ready idle), fun code unknown => ⟨fun bytes => ?_, ?_⟩⟩,
    fun t active => ⟨fun begun => ?_, fun coded => ⟨fun bytes => ?_, ?_⟩, fun code unknown => ⟨fun begun => ?_, fun coded =>
      ⟨fun nothing bytes => ?_, ?_⟩⟩⟩⟩
  · refine status ((State.transaction_whole ready idle (fun hp => rfl) bytes).trans ?_)
    rw [State.portOut_status _ rfl]
    rfl
  · have moved := State.unknownTransaction_runs (s := s) dt unknown (.whole bytes)
    rw [State.transaction_whole ready idle (fun hp => prepareNothing_eq _) bytes,
      State.portOut_nothing _ (unknown_ne_status unknown) rfl] at moved
    exact moved
  · have moved := State.unknownTransaction_runs (s := s) dt unknown .select
    rw [State.transaction_select ready idle] at moved
    exact moved
  · exact status (State.transaction_code active begun rfl)
  · refine status ((State.transaction_clock active coded bytes).trans ?_)
    rw [State.portOut_status _ coded]
  · exact status (State.transaction_deselect active coded)
  · have moved := State.unknownTransaction_runs (s := s) dt unknown .code
    rw [State.transaction_code active begun (prepareNothing_eq _)] at moved
    exact moved
  · have moved := State.unknownTransaction_runs (s := s) dt unknown (.clock bytes)
    rw [State.transaction_clock active coded, State.portOut_nothing _ (by rw [coded]; exact unknown_ne_status unknown) nothing]
      at moved
    exact moved
  · have moved := State.unknownTransaction_runs (s := s) dt unknown .deselect
    rw [State.transaction_deselect active coded] at moved
    exact moved

end Sys2Proof.Machine

/-! PROOF. SUBMIT, FETCH, CHANGES and CONFLICT (10.2, 11.3): what byte 0 prepares, and what the rise of CS_N decides. -/

namespace Sys2Proof.Machine

variable {s : State} {t : Txn}

/-! ### SUBMIT (R171, R172) -/

/-- A SUBMIT at the rise of CS_N: cut short, accepted, BAD_COMMAND or refused (R171, R172). -/
theorem finishSubmit_eq (t : Txn) (s : State) : finishSubmit t s =
    if t.ins.length < 2 ∨ t.ins.length < 2 + natAt t.ins 1 then s
    else if s.cu = .idle then
      if commandOk (byteAt t.ins 0) ((t.ins.drop 2).take (natAt t.ins 1)) then { s with
        hp := { s.hp with refused := false }
        cu := .executing (byteAt t.ins 0) ((t.ins.drop 2).take (natAt t.ins 1)) }
      else { s with hp := { s.hp with refused := false }, cu := .ready { code := .badCommand, payload := [] } }
    else { s with hp := { s.hp with refused := true } } := by
  unfold finishSubmit
  dsimp only
  split
  · rfl
  · have whole (ok : commandOk (byteAt t.ins 0) ((t.ins.drop 2).take (natAt t.ins 1)) = true) :
        ((t.ins.drop 2).take (natAt t.ins 1)).take 48 = (t.ins.drop 2).take (natAt t.ins 1) :=
      List.take_of_length_le (of_decide_eq_true (Bool.and_eq_true_iff.1 ok).2)
    unfold State.submitCommand
    split
    next idle =>
      rw [if_pos idle]
      split
      next ok => rw [whole ok]; rfl
      next => rfl
    next busy =>
      rw [if_neg busy]
      rfl

/-- Settles O44: each part of SUBMIT, and the decision at the rise of CS_N. -/
theorem submitIsDecidedAtTheRiseOfCsN : Obligations.SubmitIsDecidedAtTheRiseOfCsN := by
  unfold Obligations.SubmitIsDecidedAtTheRiseOfCsN
  intro dt s out started
  have ready := s.advance_portReady dt out started
  dsimp only
  rw [← s.advance_hp dt, ← s.advance_statusByte dt, ← s.advance_cu dt]
  have submit {phase : PortPhase} {u : State}
      (moves : (s.advance dt).transaction 0x02 prepareNothing finishSubmit phase = u) : Runs (.submit dt phase) s u :=
    congrArg Host.Outcome.next moves
  refine ⟨fun idle => ⟨fun bytes => ?_, submit (State.transaction_select ready idle)⟩, fun t active => ⟨fun begun =>
    ⟨submit (State.transaction_code active begun rfl), submit (State.transaction_deselect_begun active begun)⟩,
    fun coded => ⟨fun nothing bytes => ?_, ?_⟩⟩⟩
  · refine submit ((State.transaction_whole ready idle (fun hp => prepareNothing_eq _) bytes).trans ?_)
    rw [State.portOut_nothing _ (by decide) rfl]
    exact finishSubmit_eq _ _
  · refine submit ((State.transaction_clock active coded bytes).trans ?_)
    rw [State.portOut_nothing _ (by rw [coded]; decide) nothing]
  · refine submit ((State.transaction_deselect active coded).trans ?_)
    exact finishSubmit_eq _ _

/-! ### FETCH (R173) -/

theorem prepareFetch_ready {r : Result} (result : s.cu = .ready r) :
    prepareFetch s = ((byte (resultNumber r.code) :: byte r.payload.length :: r.payload, true), { s with cn := s.cn }) := by
  unfold prepareFetch
  rw [result]
  rfl

theorem prepareFetch_none (none : ∀ r, s.cu ≠ .ready r) : prepareFetch s = (([0xFF, 0], false), { s with cn := s.cn }) := by
  unfold prepareFetch
  split
  next r result => exact absurd result (none r)
  next => rfl

theorem finishFetch_eq (t : Txn) (s : State) : finishFetch t s =
    { s with cu := if t.loaded = true ∧ t.plan.length ≤ t.ins.length then .idle else s.cu } := by
  unfold finishFetch
  split <;> rfl

/-- Settles O46: each part of FETCH, with and without a result. -/
theorem fetchReadsTheResult : Obligations.FetchReadsTheResult := by
  unfold Obligations.FetchReadsTheResult
  intro dt s out started
  have ready := s.advance_portReady dt out started
  dsimp only
  rw [← s.advance_hp dt, ← s.advance_statusByte dt, ← s.advance_cu dt]
  have fetch {phase : PortPhase} {u : State}
      (moves : (s.advance dt).transaction 0x03 prepareFetch finishFetch phase = u) : Runs (.fetch dt phase) s u :=
    congrArg Host.Outcome.next moves
  refine ⟨fun idle => ⟨fun bytes => ⟨fun r result => ?_, fun none => ?_⟩, fetch (State.transaction_select ready idle)⟩,
    fun t active => ⟨fun begun => ⟨fun r result => ?_, fun none => ?_, ?_⟩, fun coded => ⟨fun bytes => ?_, ?_⟩⟩⟩
  · refine fetch ((State.transaction_whole ready idle (fun hp => prepareFetch_ready result) bytes).trans ?_)
    rw [State.portOut_planned _ (by simp), finishFetch_eq]
    have whole : (byte (resultNumber r.code) :: byte r.payload.length :: r.payload).length ≤ bytes.length ↔
        2 + r.payload.length ≤ bytes.length := by
      rw [List.length_cons, List.length_cons]
      omega
    simp only [whole, true_and, List.length_nil, Nat.zero_add]
    split <;> rfl
  · refine fetch ((State.transaction_whole ready idle (fun hp => prepareFetch_none none) bytes).trans ?_)
    rw [State.portOut_planned _ (by simp), finishFetch_eq]
    simp only [List.length_nil, Nat.zero_add]
    rfl
  · exact fetch (State.transaction_code active begun (prepareFetch_ready result))
  · exact fetch (State.transaction_code active begun (prepareFetch_none none))
  · exact fetch (State.transaction_deselect_begun active begun)
  · refine fetch ((State.transaction_clock active coded bytes).trans ?_)
    rw [State.portOut_planned _ (by rw [coded]; decide)]
  · exact fetch ((State.transaction_deselect active coded).trans (finishFetch_eq _ _))

/-! ### CHANGES and CONFLICT (R191, R192) -/

theorem prepareChanges_eq (s : State) (hp : Port) : prepareChanges { s with hp := hp } =
    (((List.range 8).map (fun k => s.cn.changes.extractLsb' (8 * k) 8) ++ [s.cn.notices.setWidth 8], false),
      { s with hp := hp, cn := { s.cn with marks := s.cn.changes, noticeMarks := s.cn.notices } }) := rfl

theorem finishChanges_eq (t : Txn) (s : State) : finishChanges t s = { s with cn := { s.cn with
    changes := if 9 ≤ t.ins.length then s.cn.changes &&& ~~~s.cn.marks else s.cn.changes
    notices := if 9 ≤ t.ins.length then s.cn.notices &&& ~~~s.cn.noticeMarks else s.cn.notices
    marks := 0, noticeMarks := 0 } } := by
  simp only [finishChanges, decide_eq_true_eq]
  rfl

/-- The latch as CONFLICT reports it (R192, R206). -/
theorem latchBytes_eq (latch : Option Latch) : latchBytes latch = match latch with
    | some l => [byte (if l.overflow then 3 else 1), byte l.address, byte l.slot] ++ uidBytes l.intruder ++ [l.code]
    | none => List.replicate 10 0 := by
  rcases latch with _ | l
  · rfl
  · have flags : (1 + if l.overflow = true then 2 else 0) = if l.overflow = true then 3 else 1 := by
      cases l.overflow <;> rfl
    dsimp only [latchBytes]
    rw [flags]

theorem prepareConflict_eq (s : State) (hp : Port) : prepareConflict { s with hp := hp } =
    ((latchBytes s.cn.latch, s.cn.latch.isSome), { s with hp := hp, cn := s.cn }) := rfl

theorem finishConflict_eq (t : Txn) (s : State) : finishConflict t s = { s with cn := { s.cn with
    latch := if t.loaded = true ∧ 10 ≤ t.ins.length then none else s.cn.latch } } := by
  unfold finishConflict
  split <;> rfl

/-- A CONFLICT that took its report at byte 0 and counts 11 bytes leaves no latch: it empties the one it reported, or
there was none. -/
theorem reportedLatch_eq (latch : Option Latch) (n : Nat) :
    (if latch.isSome = true ∧ 10 ≤ n then none else latch) = if 10 ≤ n then none else latch := by
  cases latch <;> simp

/-- Settles O47: each part of CHANGES and of CONFLICT. -/
theorem changesAndConflictClearWhatTheyReported : Obligations.ChangesAndConflictClearWhatTheyReported := by
  unfold Obligations.ChangesAndConflictClearWhatTheyReported
  intro dt s out started
  have ready := s.advance_portReady dt out started
  dsimp only
  rw [← s.advance_hp dt, ← s.advance_statusByte dt, ← s.advance_cn dt]
  have report := latchBytes_eq (s.advance dt).cn.latch
  have changes {phase : PortPhase} {u : State}
      (moves : (s.advance dt).transaction 0x04 prepareChanges finishChanges phase = u) : Runs (.changes dt phase) s u :=
    congrArg Host.Outcome.next moves
  have conflict {phase : PortPhase} {u : State}
      (moves : (s.advance dt).transaction 0x05 prepareConflict finishConflict phase = u) :
      Runs (.conflictTransaction dt phase) s u :=
    congrArg Host.Outcome.next moves
  refine ⟨fun idle => ⟨changes (State.transaction_select ready idle), conflict (State.transaction_select ready idle),
      fun bytes => ⟨?_, ?_⟩⟩, fun t active => ⟨fun begun => ⟨changes (State.transaction_code active begun (prepareChanges_eq _ _)), ?_⟩,
      fun coded => ⟨fun bytes => ?_, changes ((State.transaction_deselect active coded).trans (finishChanges_eq _ _))⟩,
      fun coded => ⟨fun bytes => ?_, conflict ((State.transaction_deselect active coded).trans (finishConflict_eq _ _))⟩⟩⟩
  · refine changes ((State.transaction_whole ready idle (prepareChanges_eq _) bytes).trans ?_)
    rw [State.portOut_planned _ (by simp), finishChanges_eq]
    simp only [List.length_nil, Nat.zero_add, BitVec.and_not_self]
  · refine conflict ((State.transaction_whole ready idle (prepareConflict_eq _) bytes).trans ?_)
    rw [State.portOut_planned _ (by simp), finishConflict_eq]
    dsimp only
    rw [reportedLatch_eq, report]
    simp only [List.length_nil, Nat.zero_add]
    all_goals rfl
  · have coded := State.transaction_code (code := 0x05) (prepare := prepareConflict) (finish := finishConflict)
      (cn := (s.advance dt).cn) active begun (prepareConflict_eq (s.advance dt) (s.advance dt).hp)
    rw [report] at coded
    exact conflict coded
  · refine changes ((State.transaction_clock active coded bytes).trans ?_)
    rw [State.portOut_planned _ (by rw [coded]; decide)]
  · refine conflict ((State.transaction_clock active coded bytes).trans ?_)
    rw [State.portOut_planned _ (by rw [coded]; decide)]

end Sys2Proof.Machine

/-! PROOF. The command unit's check (10.2): the argument lengths of the table, and the layouts of PROVISION, EDIT and
CONFIGURE. -/

namespace Sys2Proof.Machine

variable {code : Byte} {args : List Byte}

theorem commandOk_iff : commandOk code args = true ↔ commandLength code args = some args.length ∧ args.length ≤ 48 := by
  simp [commandOk]

/-! ### Codes of one length, and unknown codes (R172) -/

theorem commandLength_table {n : Nat}
    (listed : (code.toNat, n) ∈ [(0x10, 1), (0x11, 6), (0x12, 1), (0x13, 3), (0x22, 1), (0x23, 1), (0x24, 6), (0x30, 6),
      (0x31, 7), (0x32, 1), (0x40, 2), (0x41, 2), (0x42, 1), (0x43, 1), (0x44, 2), (0x51, 0), (0x52, 1), (0x53, 0),
      (0x54, 0), (0x60, 0), (0x61, 2), (0x62, 0)]) : commandLength code args = some n ∧ n ≤ 48 := by
  unfold commandLength
  generalize code.toNat = c at listed
  simp only [List.mem_cons, Prod.mk.injEq, List.not_mem_nil, or_false] at listed
  casesm* _ ∨ _, _ ∧ _
  all_goals
    subst_vars
    exact ⟨rfl, by decide⟩

theorem commandLength_known {n : Nat} (length : commandLength code args = some n) :
    code.toNat ∈ [0x10, 0x11, 0x12, 0x13, 0x20, 0x21, 0x22, 0x23, 0x24, 0x30, 0x31, 0x32, 0x40, 0x41, 0x42, 0x43, 0x44,
      0x50, 0x51, 0x52, 0x53, 0x54, 0x60, 0x61, 0x62] := by
  unfold commandLength at length
  generalize code.toNat = c at length
  split at length
  case h_26 => cases length
  all_goals decide

/-! ### Splitting the arguments -/

/-- A list in front of, at and behind a place inside it. -/
theorem split_at_place {l : List Byte} {i : Nat} (inside : i < l.length) :
    l = l.take i ++ byteAt l i :: l.drop (i + 1) := by
  have here : byteAt l i = l[i] := by
    rw [byteAt, List.getD_eq_getElem?_getD, List.getElem?_eq_getElem inside, Option.getD_some]
  rw [here, ← List.drop_eq_getElem_cons inside, List.take_append_drop]

theorem byteAt_drop (l : List Byte) (k i : Nat) : byteAt (l.drop k) i = byteAt l (k + i) := by
  simp [byteAt]

theorem byteAt_append_cons (before after : List Byte) (b : Byte) : byteAt (before ++ b :: after) before.length = b := by
  simp [byteAt]

/-- PROVISION's arguments: eight bytes, a counted label and counted groups (R207). -/
theorem provision_layout (args : List Byte) : args.length = 10 + natAt args 8 + natAt args (9 + natAt args 8) ↔
    ∃ (fixed label groups : List Byte) (n m : Byte), args = fixed ++ n :: label ++ m :: groups ∧
      fixed.length = 8 ∧ label.length = n.toNat ∧ groups.length = m.toNat := by
  constructor
  · intro length
    have outer := split_at_place (l := args) (i := 8) (by omega)
    have inner := split_at_place (l := args.drop 9) (i := natAt args 8) (by rw [List.length_drop]; omega)
    rw [byteAt_drop] at inner
    refine ⟨args.take 8, (args.drop 9).take (natAt args 8), (args.drop 9).drop (natAt args 8 + 1), byteAt args 8,
      byteAt args (9 + natAt args 8), ?_, ?_, ?_, ?_⟩
    · rw [List.append_assoc, List.cons_append, ← inner]
      exact outer
    · rw [List.length_take]
      omega
    · rw [List.length_take, List.length_drop]
      show min (natAt args 8) (args.length - 9) = natAt args 8
      omega
    · rw [List.length_drop, List.length_drop]
      show args.length - 9 - (natAt args 8 + 1) = natAt args (9 + natAt args 8)
      omega
  · rintro ⟨fixed, label, groups, n, m, rfl, eight, labelled, grouped⟩
    have first : natAt (fixed ++ n :: label ++ m :: groups) 8 = n.toNat := by
      have here := byteAt_append_cons fixed (label ++ m :: groups) n
      rw [eight] at here
      rw [natAt, List.append_assoc, List.cons_append, here]
    have second : natAt (fixed ++ n :: label ++ m :: groups) (9 + n.toNat) = m.toNat := by
      have place : 9 + n.toNat = (fixed ++ n :: label).length := by
        rw [List.length_append, List.length_cons]
        omega
      rw [natAt, place, byteAt_append_cons]
    rw [first, second]
    simp only [List.length_append, List.length_cons]
    omega

/-- A counted field, or nothing. -/
theorem counted_layout (counted : Bool) (bytes : List Byte) :
    bytes.length = (if counted then 1 + natAt bytes 0 else 0) ↔
      if counted then ∃ (n : Byte) (rest : List Byte), bytes = n :: rest ∧ rest.length = n.toNat else bytes = [] := by
  cases counted
  · exact List.length_eq_zero_iff
  · cases bytes with
    | nil =>
      rw [if_pos rfl, if_pos rfl, List.length_nil]
      exact iff_of_false (by omega) (by rintro ⟨n, rest, is, -⟩; cases is)
    | cons n rest =>
      have first : natAt (n :: rest) 0 = n.toNat := rfl
      simp [first, Nat.add_comm]

/-- EDIT's arguments: slot, selector, and the selected fields (R207). -/
theorem edit_layout (args : List Byte) :
    args.length = 2 + (if (byteAt args 1).getLsbD 1 then 1 else 0) + (if (byteAt args 1).getLsbD 2 then 1 else 0) +
        (if (byteAt args 1).getLsbD 0 then 1 + natAt args (2 + (if (byteAt args 1).getLsbD 1 then 1 else 0) +
          (if (byteAt args 1).getLsbD 2 then 1 else 0)) else 0) ↔
    ∃ (slot sel : Byte) (pin reserve label : List Byte), args = slot :: sel :: pin ++ reserve ++ label ∧
      pin.length = (if sel.getLsbD 1 then 1 else 0) ∧ reserve.length = (if sel.getLsbD 2 then 1 else 0) ∧
      if sel.getLsbD 0 then ∃ (n : Byte) (bytes : List Byte), label = n :: bytes ∧ bytes.length = n.toNat
      else label = [] := by
  constructor
  · intro length
    rcases args with _ | ⟨slot, _ | ⟨sel, rest⟩⟩
    · simp at length
      omega
    · simp at length
      omega
    · have chosen : byteAt (slot :: sel :: rest) 1 = sel := rfl
      rw [chosen] at length
      generalize pinned : (if sel.getLsbD 1 then 1 else 0 : Nat) = p at length
      generalize reserved : (if sel.getLsbD 2 then 1 else 0 : Nat) = q at length
      have tail : natAt (slot :: sel :: rest) (2 + p + q) = natAt (rest.drop (p + q)) 0 := by
        rw [natAt, natAt, byteAt_drop, show 2 + p + q = (p + q + 0) + 1 + 1 by omega]
        rfl
      rw [tail] at length
      simp only [List.length_cons] at length
      refine ⟨slot, sel, rest.take p, (rest.drop p).take q, rest.drop (p + q), ?_, ?_, ?_, ?_⟩
      · rw [← List.drop_drop, List.append_assoc, List.take_append_drop, List.cons_append, List.cons_append,
          List.take_append_drop]
      · rw [List.length_take, pinned]
        omega
      · rw [List.length_take, List.length_drop, reserved]
        omega
      · refine (counted_layout (sel.getLsbD 0) _).1 ?_
        rw [List.length_drop]
        omega
  · rintro ⟨slot, sel, pin, reserve, label, rfl, pinned, reserved, labelled⟩
    have chosen : byteAt (slot :: sel :: pin ++ reserve ++ label) 1 = sel := rfl
    have length := (counted_layout (sel.getLsbD 0) label).2 labelled
    have tail : natAt (slot :: sel :: pin ++ reserve ++ label) (2 + pin.length + reserve.length) = natAt label 0 := by
      have place : (slot :: sel :: pin ++ reserve ++ label).drop (2 + pin.length + reserve.length) = label := by
        rw [show 2 + pin.length + reserve.length = (slot :: sel :: pin ++ reserve).length by simp; omega,
          List.drop_left]
      rw [natAt, natAt, ← place, byteAt_drop, Nat.add_zero, place]
    rw [chosen, ← pinned, ← reserved, tail, ← length]
    simp only [List.length_append, List.length_cons]
    omega

/-- Settles O45: codes of one length, unknown codes, and the three layouts. -/
theorem commandUnitCheck : Obligations.CommandUnitCheck := by
  unfold Obligations.CommandUnitCheck
  refine ⟨fun code n args listed => ?_, fun code args unknown => ?_, fun args => ?_, fun args => ?_, fun args => ?_⟩
  · obtain ⟨length, short⟩ := commandLength_table (args := args) listed
    rw [commandOk_iff, length, Option.some.injEq]
    omega
  · rw [Bool.eq_false_iff]
    exact fun ok => unknown (commandLength_known (commandOk_iff.1 ok).1)
  · rw [commandOk_iff, and_comm, ← provision_layout]
    exact and_congr_right fun _ => ⟨fun is => (Option.some.inj is).symm, fun is => congrArg some is.symm⟩
  · rw [commandOk_iff, and_comm, ← edit_layout]
    exact and_congr_right fun _ => ⟨fun is => (Option.some.inj is).symm, fun is => congrArg some is.symm⟩
  · rw [commandOk_iff, and_comm]
    refine and_congr_right fun _ => ?_
    have length : commandLength 0x50 args = some (3 * (args.length / 3)) := rfl
    rw [length, Option.some.injEq]
    omega

end Sys2Proof.Machine

/-! PROOF. BAR, APPROVE and DENY (4.4, 5.9): their checks in order, and the record each makes or changes. -/

namespace Sys2Proof.Machine

variable {s : State} {args : List Byte}

/-- The state after a served command is the result in the buffer of what the command left. -/
def State.buffered (o : Result × State) : State := o.2.setCu (.ready o.1)

theorem State.buffered_result (x : ResultCode) (s : State) : State.buffered (result x, s) = s.resulted x [] := rfl

theorem State.serveCommand_buffered {code : Byte} (serving : Serving code args s) (run : List Byte → State → Result × State) :
    s.serveCommand code run = State.buffered (run args s) := s.serveCommand_serving code args run serving

/-! ### The records made (R85, R104, R105) -/

/-- A BARRED record made in a vacant slot. -/
theorem State.barredCreate_eq (slot : Nat) (u : Uid) (cls : Byte) :
    State.buffered (done [byte slot], s.create slot (newRecord .barred .host u none none cls 0)) =
      { s.resulted .done [byte slot] with
        ros := { s.ros with
          table := s.ros.table.set slot (some
            { state := .barred, origin := .host, uid := u, address := none, reserved := false, pinned := false,
              remaining := none, cls := cls, binds := 0, conflicts := 0, groups := [], label := [] })
          apq := s.ros.apq.eraseP fun i => i.uid == u }
        cn := s.cn.marked slot } := rfl

/-- A RESERVED record barred (R105). -/
theorem State.barReserved_eq (slot : Nat) (rd : Record) :
    State.buffered (done [byte slot], s.barReserved slot rd) =
      { s.resulted .done [byte slot] with
        ros := match rd.address with
          | some a => Roster.gaveUp s.cfg.holdTime a rd.uid { s.ros with
              table := s.ros.table.set slot (some { rd with
                state := .barred, address := none, reserved := false, pinned := false, groups := [] })
              groups := s.ros.groups.map fun g => { g with members := g.members.erase slot } }
          | none => { s.ros with
              table := s.ros.table.set slot (some { rd with
                state := .barred, address := none, reserved := false, pinned := false, groups := [] })
              groups := s.ros.groups.map fun g => { g with members := g.members.erase slot } }
        cn := s.cn.marked slot } := by
  unfold State.barReserved
  rw [State.giveUpOf_eq, State.change_eq]
  cases rd.address <;> rfl

/-- The record and the OFFER that APPROVE makes (R83). -/
theorem State.approvedCreate_eq (slot a : Nat) (u : Uid) (cls : Byte) (free : List Nat) (hold : List HoldItem) :
    State.buffered (done [byte slot],
        ((s.setCustody (free, hold)).create slot (newRecord .offered .line u (some a) (some s.cfg.offerTime) cls 0)).enqueue
          (unsolicitedEntry .offer 61 0x83
            (s.offerPayload (newRecord .offered .line u (some a) (some s.cfg.offerTime) cls 0)))) =
      { s.resulted .done [byte slot] with
        ros := { s.ros with
          table := s.ros.table.set slot (some
            { state := .offered, origin := .line, uid := u, address := some a, reserved := false,
              pinned := false, remaining := some s.cfg.offerTime, cls := cls, binds := 0, conflicts := 0,
              groups := [], label := [] })
          free := free, hold := hold, apq := s.ros.apq.eraseP fun i => i.uid == u }
        cn := s.cn.marked slot
        txq := s.txq ++ [
          { kind := .offer, attempts := 0, inAttempt := false
            frame := { ftype := 2, dest := 61, code := 0x83, tag := 0,
                       payload := offerBytes u a s.cfg.leaseTime s.cfg.offerTime s.ctl.epoch.toNat } }] } := by
  rw [State.create_eq]
  rfl

/-- Settles O55: the checks of the three commands in order. -/
theorem barApproveAndDeny : Obligations.BarApproveAndDeny := by
  unfold Obligations.BarApproveAndDeny
  intro args s
  have item : (s.ros.apq.find? fun i => i.uid == uidAt args 0) = s.findItem (uidAt args 0) := rfl
  dsimp only
  rw [item]
  refine ⟨fun serving => ?_, fun serving => ?_, fun serving => ?_⟩
  · refine ⟨_, congrArg Host.Outcome.next (State.serveCommand_buffered serving fun args s => s.bar args), ?_⟩
    unfold State.bar
    dsimp only
    simp only [validUid_eq_false]
    split
    next => rfl
    next =>
      rcases s.findUid (uidAt args 0) with _ | ⟨slot, rd⟩
      · rcases s.vacantSlot with _ | slot <;> rfl
      · dsimp only
        by_cases reserved : rd.state = .reserved
        · rw [if_pos reserved, if_pos reserved]
          exact State.barReserved_eq slot rd
        · rw [if_neg reserved, if_neg reserved]
          rfl
  · refine ⟨_, congrArg Host.Outcome.next (State.serveCommand_buffered serving fun args s => s.approve args), ?_⟩
    have custody : s.custody = (s.ros.free, s.ros.hold) := rfl
    unfold State.approve
    dsimp only
    simp only [validUid_eq_false, custody]
    split
    next => rfl
    next =>
      rcases s.findItem (uidAt args 0) with _ | item
      · rfl
      · dsimp only
        split
        next => rfl
        next =>
          rcases s.vacantSlot with _ | slot
          · rfl
          · rcases assign none (uidAt args 0) (item.preferred.getD 0) (s.ros.free, s.ros.hold) with _ | ⟨a, free, hold⟩
            · rfl
            · exact State.approvedCreate_eq slot a (uidAt args 0) item.cls free hold
  · refine ⟨_, congrArg Host.Outcome.next (State.serveCommand_buffered serving fun args s => s.deny args), ?_⟩
    unfold State.deny
    dsimp only
    simp only [validUid_eq_false]
    split
    next => rfl
    next =>
      rcases s.findItem (uidAt args 0) with _ | item
      · rfl
      · dsimp only
        split
        next => rfl
        next => rcases s.vacantSlot with _ | slot <;> rfl

end Sys2Proof.Machine

/-! PROOF. PROVISION (R179, R180): its checks in order, and the record it makes with its groups joined. -/

namespace Sys2Proof.Machine

variable {s : State} {args : List Byte} {slot : Nat} {rd : Record}

/-! ### Joining several groups (R109) -/

theorem Cn.marked_marked (slot : Nat) (c : Cn) : (c.marked slot).marked slot = c.marked slot := by
  simp only [Cn.marked, BitVec.or_assoc, BitVec.or_self, BitVec.and_assoc, BitVec.and_self]

/-- The groups after a slot has joined each of a list of groups at its tail. -/
def joinedGroups (slot : Nat) (gs : List Nat) (groups : List Group) : List Group :=
  groups.mapIdx fun g x => if g ∈ gs then { x with members := x.members ++ [slot] } else x

theorem joinedGroups_nil (slot : Nat) (groups : List Group) : joinedGroups slot [] groups = groups := by
  refine List.ext_getElem? fun i => ?_
  simp [joinedGroups]

theorem joinedGroups_cons (slot g : Nat) (gs : List Nat) (groups : List Group) (fresh : g ∉ gs) :
    joinedGroups slot gs (groups.modify g fun x => { x with members := (groups.getD g ⟨false, []⟩).members ++ [slot] }) =
      joinedGroups slot (g :: gs) groups := by
  refine List.ext_getElem? fun i => ?_
  simp only [joinedGroups, List.getElem?_mapIdx, List.getElem?_modify, List.mem_cons]
  rcases found : groups[i]? with _ | x
  · rfl
  · by_cases here : g = i
    · subst here
      simp [fresh, found]
    · have there : ¬ i = g := fun is => here is.symm
      simp [here, there]

/-- A slot that joins groups it is not in, its change bit set already, gains them at the end of its groups. -/
theorem State.joinGroups_eq (gs : List Nat) (s : State) (rd : Record) (record : s.recordAt slot = some rd)
    (distinct : gs.Nodup) (marked : s.cn.marked slot = s.cn) :
    gs.foldl (fun s g => s.joinGroup slot g) s = { s with
      ros := { s.ros with
        table := s.ros.table.set slot (some { rd with groups := rd.groups ++ gs })
        groups := joinedGroups slot gs s.ros.groups } } := by
  induction gs generalizing s rd with
  | nil =>
    have same : s.ros.table.set slot (some rd) = s.ros.table := by
      obtain ⟨inside, here⟩ := List.getElem?_eq_some_iff.1 (Option.join_eq_some_iff.1 record)
      rw [← here, List.set_getElem_self]
    rw [List.foldl_nil, List.append_nil, joinedGroups_nil, same]
  | cons g rest ih =>
    obtain ⟨fresh, distinct⟩ := List.nodup_cons.1 distinct
    have joined := s.joinGroup_eq slot g rd record
    have record' : (s.joinGroup slot g).recordAt slot = some { rd with groups := rd.groups ++ [g] } :=
      (State.joinGroup_recordAt g record slot).trans (if_pos rfl)
    rw [List.foldl_cons, ih _ _ record' distinct (by rw [joined]; exact Cn.marked_marked slot s.cn), joined]
    dsimp only
    rw [List.set_set, State.group, joinedGroups_cons slot g rest s.ros.groups fresh, List.append_assoc, marked]
    rfl

/-! ### The arguments (R179) -/

section Arguments

variable (ok : commandOk 0x20 args = true)
include ok

theorem provision_length : args.length = 10 + natAt args 8 + natAt args (9 + natAt args 8) :=
  (Option.some.inj (commandOk_iff.1 ok).1).symm

/-- The groups are all the bytes after the label and the group count. -/
theorem provisionArgs_groups : (provisionArgs args).groups = (args.drop (10 + natAt args 8)).map BitVec.toNat := by
  have length := provision_length ok
  have whole : (args.drop (10 + natAt args 8)).take (natAt args (9 + natAt args 8)) = args.drop (10 + natAt args 8) :=
    List.take_of_length_le (by rw [List.length_drop]; omega)
  rw [← whole]
  rfl

theorem provisionArgs_label : (provisionArgs args).label.length = natAt args 8 := by
  have length := provision_length ok
  show ((args.drop 9).take (natAt args 8)).length = _
  rw [List.length_take, List.length_drop]
  omega

/-- The checks of PROVISION, over the argument bytes. -/
theorem State.provisionCheck_eq : s.provisionCheck (provisionArgs args) =
    if (uidAt args 0 = 0 ∨ uidAt args 0 = BitVec.allOnes 48) ∨ 60 < natAt args 6 ∨ 1 < natAt args 7 ∨ 12 < natAt args 8 ∨
        (∃ g ∈ (args.drop (10 + natAt args 8)).map BitVec.toNat, 15 < g) then some .badArgument
    else if (s.findUid (uidAt args 0)).isSome = true then some .duplicate
    else if s.vacantSlot = none then some .full
    else if natAt args 6 ≠ 0 ∧ claim (natAt args 6) (uidAt args 0) (s.ros.free, s.ros.hold) = none then some .inUse
    else if ∃ g ∈ (args.drop (10 + natAt args 8)).map BitVec.toNat, 24 ≤ (s.group g).members.length then some .full
    else if 4 < ((args.drop (10 + natAt args 8)).map BitVec.toNat).length ∨
        ¬ ((args.drop (10 + natAt args 8)).map BitVec.toNat).Nodup then some .badArgument
    else none := by
  have uid : (provisionArgs args).uid = uidAt args 0 := rfl
  have address : (provisionArgs args).address = natAt args 6 := rfl
  have pinned : (provisionArgs args).pinned.toNat = natAt args 7 := rfl
  have custody : s.custody = (s.ros.free, s.ros.hold) := rfl
  unfold State.provisionCheck
  simp only [uid, address, pinned, custody, provisionArgs_groups ok, provisionArgs_label ok, validUid_eq_false, List.any_eq_true,
    decide_eq_true_eq]

end Arguments

/-! ### The record made (R180) -/

/-- PROVISION carried out in a vacant slot, with the reserved address claimed and the groups joined. -/
theorem State.provisionAt_eq {p : ProvisionArgs} {free : List Nat} {hold : List HoldItem} (vacant : s.vacantSlot = some slot)
    (claimed : (if p.address = 0 then some (s.ros.free, s.ros.hold)
      else claim p.address p.uid (s.ros.free, s.ros.hold)) = some (free, hold)) (distinct : p.groups.Nodup) :
    s.provisionAt slot p = { s with
      ros :=
        { table := s.ros.table.set slot (some { provisionRecord p with groups := p.groups })
          free := free
          hold := hold
          apq := s.ros.apq.eraseP fun i => i.uid == p.uid
          groups := joinedGroups slot p.groups s.ros.groups }
      cn := s.cn.marked slot } := by
  have taken : s.provisionAt slot p =
      p.groups.foldl (fun s g => s.joinGroup slot g) ((s.setCustody (free, hold)).create slot (provisionRecord p)) := by
    unfold State.provisionAt
    dsimp only
    by_cases none : p.address = 0
    · rw [if_pos none] at claimed ⊢
      obtain ⟨rfl, rfl⟩ := Prod.mk.inj (Option.some.inj claimed)
      rfl
    · have custody : s.custody = (s.ros.free, s.ros.hold) := rfl
      rw [if_neg none] at claimed ⊢
      rw [custody, claimed]
  obtain ⟨inside, -, -⟩ := s.vacantSlot_some slot vacant
  have record : ((s.setCustody (free, hold)).create slot (provisionRecord p)).recordAt slot = some (provisionRecord p) :=
    ((s.setCustody (free, hold)).recordAt_putRecord slot slot _ inside).trans (if_pos rfl)
  rw [taken, State.joinGroups_eq p.groups _ _ record distinct (Cn.marked_marked slot s.cn), State.create_eq]
  dsimp only
  rw [List.set_set]
  rfl

theorem State.provision_refused {x : ResultCode} (check : s.provisionCheck (provisionArgs args) = some x) :
    s.provision args = (result x, s) := by
  unfold State.provision
  dsimp only
  rw [check]

/-- The record that passes the checks (R180). -/
theorem provisionRecord_eq (ok : commandOk 0x20 args = true) :
    { provisionRecord (provisionArgs args) with groups := (provisionArgs args).groups } =
      { state := .reserved, origin := .host, uid := uidAt args 0,
        address := if natAt args 6 = 0 then none else some (natAt args 6), reserved := decide (natAt args 6 ≠ 0),
        pinned := decide (natAt args 7 = 1), remaining := none, cls := 0, binds := 0, conflicts := 0,
        groups := (args.drop (10 + natAt args 8)).map BitVec.toNat, label := (args.drop 9).take (natAt args 8) } := by
  have pinned : decide (byteAt args 7 = 1) = decide (natAt args 7 = 1) :=
    decide_eq_decide.2 (BitVec.toNat_inj (y := (1 : Byte))).symm
  rw [provisionArgs_groups ok, ← pinned]
  rfl

/-- Settles O52: the checks in order, and the record in the lowest vacant slot. -/
theorem provisionMakesARecord : Obligations.ProvisionMakesARecord := by
  unfold Obligations.ProvisionMakesARecord
  intro args s serving full
  have ok := serving.2.2
  dsimp only
  refine ⟨_, congrArg Host.Outcome.next (State.serveCommand_buffered serving fun args s => s.provision args), ?_⟩
  have check := State.provisionCheck_eq (s := s) ok
  have refused {x : ResultCode} (check : s.provisionCheck (provisionArgs args) = some x) :
      State.buffered (s.provision args) = s.resulted x [] := by
    rw [State.provision_refused check, State.buffered_result]
  split
  next bad => exact refused (check.trans (if_pos bad))
  next good =>
    replace check := check.trans (if_neg good)
    split
    next known => exact refused (check.trans (if_pos known))
    next unknown =>
      replace check := check.trans (if_neg unknown)
      cases vacant : s.vacantSlot with
      | none => exact refused (check.trans (if_pos vacant))
      | some slot =>
        replace check := check.trans (if_neg (by rw [vacant]; exact nofun))
        dsimp only
        cases claimed : (if natAt args 6 = 0 then some (s.ros.free, s.ros.hold)
            else claim (natAt args 6) (uidAt args 0) (s.ros.free, s.ros.hold)) with
        | none =>
          by_cases none : natAt args 6 = 0
          · rw [if_pos none] at claimed
            cases claimed
          · rw [if_neg none] at claimed
            exact refused (check.trans (if_pos ⟨none, claimed⟩))
        | some custody =>
          obtain ⟨free, hold⟩ := custody
          replace check := check.trans (if_neg fun inUse => by rw [if_neg inUse.1, inUse.2] at claimed; cases claimed)
          dsimp only
          split
          next crowded => exact refused (check.trans (if_pos crowded))
          next roomy =>
            replace check := check.trans (if_neg roomy)
            split
            next many => exact refused (check.trans (if_pos many))
            next few =>
              replace check := check.trans (if_neg few)
              have distinct : (provisionArgs args).groups.Nodup := by
                rw [provisionArgs_groups ok]
                exact not_not.1 (not_or.1 few).2
              unfold State.provision
              dsimp only
              rw [check, vacant]
              dsimp only
              rw [State.provisionAt_eq vacant claimed distinct, provisionRecord_eq ok, provisionArgs_groups ok]
              rfl

end Sys2Proof.Machine

/-! PROOF. EDIT (R181, R182): its checks in order, and each selected field's effect on the record. -/

namespace Sys2Proof.Machine

variable {s : State} {args : List Byte}

theorem byte_eq_one_iff (b : Byte) : b = 1 ↔ b.toNat = 1 := (BitVec.toNat_inj (y := (1 : Byte))).symm

/-! ### Each field's effect (R182) -/

/-- EDIT of the reserved flag, to 0 or 1, or of no flag. -/
theorem editReserved_eq (selected : Bool) (v : Byte) (rd : Record) (flag : selected = true → v.toNat ≤ 1) :
    editReserved (if selected then some v else none) rd = { rd with
      address := if selected = true ∧ v.toNat = 0 ∧ rd.reserved = true ∧ rd.state = .reserved then none else rd.address
      reserved := if selected then decide (v.toNat = 1) else rd.reserved } := by
  cases selected with
  | false => rfl
  | true =>
    have small := flag rfl
    unfold editReserved
    simp only [if_true, true_and, byte_eq_one_iff]
    by_cases one : v.toNat = 1
    · simp [one]
    · have zero : v.toNat = 0 := by omega
      simp only [zero, true_and, zero_ne_one, if_false, decide_false]
      split <;> rfl

/-- EDIT of the pin, to 0 or 1, or of no pin (R68, R69). -/
theorem State.editPin_eq (selected : Bool) (v : Byte) (rd : Record) (flag : selected = true → v.toNat ≤ 1) :
    s.editPin (if selected then some v else none) rd = { rd with
      state := if selected = true ∧ v.toNat = 1 ∧ rd.state = .lapsed then .bound else rd.state
      pinned := if selected then decide (v.toNat = 1) else rd.pinned
      remaining :=
        if selected = true ∧ v.toNat = 1 ∧ (rd.state = .bound ∨ rd.state = .lapsed) then none
        else if selected = true ∧ v.toNat = 0 ∧ rd.pinned = true ∧ rd.state = .bound then some s.cfg.leaseTime
        else rd.remaining } := by
  cases selected with
  | false => rfl
  | true =>
    have small := flag rfl
    unfold State.editPin
    simp only [if_true, true_and, byte_eq_one_iff]
    by_cases one : v.toNat = 1
    · cases rd.state <;> simp [one]
    · have zero : v.toNat = 0 := by omega
      simp only [zero, true_and, zero_ne_one, false_and, if_false, decide_false]
      split <;> rfl

theorem editLabel_eq (selected : Bool) (label : List Byte) (rd : Record) :
    editLabel (if selected then some label else none) rd = { rd with label := if selected then label else rd.label } := by
  cases selected <;> rfl

/-! ### The arguments and the checks (R181) -/

/-- The place of the reserved flag, and of the label's length, among the arguments. -/
def editReservePlace (args : List Byte) : Nat := if (byteAt args 1).getLsbD 1 then 3 else 2

def editLabelPlace (args : List Byte) : Nat :=
  2 + (if (byteAt args 1).getLsbD 1 then 1 else 0) + (if (byteAt args 1).getLsbD 2 then 1 else 0)

theorem editArgs_eq (args : List Byte) : editArgs args =
    { slot := natAt args 0, selection := byteAt args 1
      pin := if (byteAt args 1).getLsbD 1 then some (byteAt args 2) else none
      reserve := if (byteAt args 1).getLsbD 2 then some (byteAt args (editReservePlace args)) else none
      label := if (byteAt args 1).getLsbD 0 then
          some ((args.drop (editLabelPlace args + 1)).take (natAt args (editLabelPlace args)))
        else none } := by
  have place : 2 + (if (byteAt args 1).getLsbD 1 = true then 1 else 0) = editReservePlace args := by
    unfold editReservePlace
    split <;> rfl
  rw [← place]
  rfl

/-- A selected flag that is out of range. -/
theorem flag_out_of_range (selected : Bool) (v : Byte) :
    1 < ((if selected then some v else none : Option Byte).getD 0).toNat ↔ selected = true ∧ 1 < v.toNat := by
  cases selected <;> simp

section Arguments

variable (ok : commandOk 0x21 args = true)
include ok

/-- A selected label that is too long. -/
theorem editLabel_too_long :
    12 < ((if (byteAt args 1).getLsbD 0 then
        some ((args.drop (editLabelPlace args + 1)).take (natAt args (editLabelPlace args))) else none).getD []).length ↔
      (byteAt args 1).getLsbD 0 = true ∧ 12 < natAt args (editLabelPlace args) := by
  have length : editLabelPlace args + (if (byteAt args 1).getLsbD 0 then 1 + natAt args (editLabelPlace args) else 0) =
      args.length := Option.some.inj (commandOk_iff.1 ok).1
  cases labels : (byteAt args 1).getLsbD 0 with
  | false => simp
  | true =>
    rw [labels, if_pos rfl] at length
    rw [if_pos rfl, Option.getD_some, List.length_take, List.length_drop]
    simp only [true_and]
    omega

theorem editBad_iff : editBad (editArgs args) = true ↔
    63 < natAt args 0 ∨ byteAt args 1 = 0 ∨ 7 < (byteAt args 1).toNat ∨
    (byteAt args 1).getLsbD 1 = true ∧ 1 < natAt args 2 ∨
    (byteAt args 1).getLsbD 2 = true ∧ 1 < natAt args (editReservePlace args) ∨
    (byteAt args 1).getLsbD 0 = true ∧ 12 < natAt args (editLabelPlace args) := by
  rw [editArgs_eq]
  simp only [editBad, Bool.or_eq_true, decide_eq_true_eq, beq_iff_eq, flag_out_of_range, editLabel_too_long ok, or_assoc]
  rfl

end Arguments

theorem editStateBad_iff (rd : Record) : editStateBad (editArgs args) rd = true ↔
    ((byteAt args 1).getLsbD 1 = true ∧ (rd.state = .evicting ∨ rd.state = .barred)) ∨
    (byteAt args 1).getLsbD 2 = true ∧ natAt args (editReservePlace args) = 1 ∧ (rd.origin = .line ∨ rd.address = none) := by
  have one : byteAt args (editReservePlace args) = 1 ↔ natAt args (editReservePlace args) = 1 := byte_eq_one_iff _
  rw [editArgs_eq, ← one]
  unfold editStateBad
  cases (byteAt args 1).getLsbD 1 <;> cases (byteAt args 1).getLsbD 2 <;> simp

/-! ### The edit (R182) -/

/-- The record as EDIT leaves it. -/
def editedRecord (args : List Byte) (leaseTime : Nat) (rd : Record) : Record :=
  { rd with
    state := if (byteAt args 1).getLsbD 1 = true ∧ natAt args 2 = 1 ∧ rd.state = .lapsed then .bound else rd.state
    address := if (byteAt args 1).getLsbD 2 = true ∧ natAt args (editReservePlace args) = 0 ∧ rd.reserved = true ∧
      rd.state = .reserved then none else rd.address
    reserved := if (byteAt args 1).getLsbD 2 then decide (natAt args (editReservePlace args) = 1) else rd.reserved
    pinned := if (byteAt args 1).getLsbD 1 then decide (natAt args 2 = 1) else rd.pinned
    remaining :=
      if (byteAt args 1).getLsbD 1 = true ∧ natAt args 2 = 1 ∧ (rd.state = .bound ∨ rd.state = .lapsed) then none
      else if (byteAt args 1).getLsbD 1 = true ∧ natAt args 2 = 0 ∧ rd.pinned = true ∧ rd.state = .bound then some leaseTime
      else rd.remaining
    label := if (byteAt args 1).getLsbD 0 then
      (args.drop (editLabelPlace args + 1)).take (natAt args (editLabelPlace args)) else rd.label }

/-- The next state of an EDIT that passes its checks: the record, and its address in custody again when it gave it up. -/
theorem State.editRecord_eq (rd : Record) (pin : (byteAt args 1).getLsbD 1 = true → natAt args 2 ≤ 1)
    (reserve : (byteAt args 1).getLsbD 2 = true → natAt args (editReservePlace args) ≤ 1) :
    s.editRecord (editArgs args) rd = { s with
      ros := match rd.address with
        | some a =>
          if (byteAt args 1).getLsbD 2 = true ∧ natAt args (editReservePlace args) = 0 ∧ rd.reserved = true ∧
              rd.state = .reserved then
            Roster.gaveUp s.cfg.holdTime a rd.uid { s.ros with
              table := s.ros.table.set (natAt args 0) (some (editedRecord args s.cfg.leaseTime rd)) }
          else { s.ros with table := s.ros.table.set (natAt args 0) (some (editedRecord args s.cfg.leaseTime rd)) }
        | none => { s.ros with table := s.ros.table.set (natAt args 0) (some (editedRecord args s.cfg.leaseTime rd)) }
      cn := s.cn.marked (natAt args 0) } := by
  rw [editArgs_eq]
  unfold State.editRecord
  dsimp only
  rw [editReserved_eq _ _ rd reserve, State.editPin_eq _ _ _ pin, editLabel_eq, State.change_eq, State.giveUpOf_eq]
  dsimp only [editedRecord]
  cases rd.address with
  | none =>
    rw [if_pos (ite_self _)]
    all_goals rfl
  | some a =>
    by_cases givesUp : (byteAt args 1).getLsbD 2 = true ∧ natAt args (editReservePlace args) = 0 ∧ rd.reserved = true ∧
        rd.state = .reserved
    · have givesUp' : (byteAt args 1).getLsbD 2 = true ∧ (byteAt args (editReservePlace args)).toNat = 0 ∧
        rd.reserved = true ∧ rd.state = .reserved := givesUp
      simp only [if_pos givesUp, if_pos givesUp', if_true]
      all_goals rfl
    · have keeps : ¬ ((byteAt args 1).getLsbD 2 = true ∧ (byteAt args (editReservePlace args)).toNat = 0 ∧
        rd.reserved = true ∧ rd.state = .reserved) := givesUp
      simp only [if_neg givesUp, if_neg keeps, reduceCtorEq, if_false]
      all_goals rfl

/-- Settles O53: the checks in order, and the edited record. -/
theorem editChangesARecord : Obligations.EditChangesARecord := by
  unfold Obligations.EditChangesARecord
  intro args s serving
  have bad := editBad_iff serving.2.2
  dsimp only
  refine ⟨_, congrArg Host.Outcome.next (State.serveCommand_buffered serving fun args s => s.edit args), ?_⟩
  have reservePlace : (if (byteAt args 1).getLsbD 1 = true then 3 else 2) = editReservePlace args := rfl
  have labelPlace : 2 + (if (byteAt args 1).getLsbD 1 = true then 1 else 0) +
      (if (byteAt args 1).getLsbD 2 = true then 1 else 0) = editLabelPlace args := rfl
  have slot : (editArgs args).slot = natAt args 0 := rfl
  rw [reservePlace, labelPlace]
  unfold State.edit
  dsimp only
  rw [slot]
  by_cases refused : editBad (editArgs args) = true
  · rw [if_pos refused, if_pos (bad.1 refused)]
    rfl
  · have good := mt bad.2 refused
    rw [if_neg refused, if_neg good]
    cases s.recordAt (natAt args 0) with
    | none => rfl
    | some rd =>
      have stateBad := editStateBad_iff (args := args) rd
      dsimp only
      split
      next pinned =>
        rw [if_pos (stateBad.2 (.inl pinned))]
        rfl
      next unpinned =>
        split
        next reserved =>
          rw [if_pos (stateBad.2 (.inr reserved))]
          rfl
        next unreserved =>
          simp only [not_or, not_and, not_lt] at good
          obtain ⟨-, -, -, pin, reserve, -⟩ := good
          rw [if_neg (mt stateBad.1 (not_or.2 ⟨unpinned, unreserved⟩)), State.buffered, State.editRecord_eq rd pin reserve]
          all_goals rfl

end Sys2Proof.Machine
